-- ==== Sys2Proof/Word.lean ====
section
/-!
DEFINITION. The plain types every other file is written in: bytes and 16-bit values as they travel on the line
and at the host port, station addresses and data phase indices.
-/

namespace Sys2Proof

/-- One byte of a line frame, a host transaction or the configuration record. -/
abbrev Byte := BitVec 8

/-- A 16-bit value: a cycle number, a digest, a 16-bit check, a tag (R97, R186 to R193). -/
abbrev Half := BitVec 16

/-- A station address, 0..31 (R1, R161). -/
abbrev Addr := Fin 32

/-- A data phase index, 0..95 (R7, R18). -/
abbrev Phase := Fin 96

end Sys2Proof
end

