-- ==== Sys2Proof/Config.lean ====
section
/-!
DEFINITION. The constants the part fixes: the cycle geometry (R2, R7), the timer limits (R7, R17, R90, R92) and the
sizes of the lists and pools. The spec leaves no value of an effect open, so there is no free value here
(notes/assumptions/24.md says how each apparent choice is closed by the spec's own words).
-/

namespace Sys2Proof.Config

/-- R7: bit times of the marker slot. -/
def markerSlotBits : Nat := 600
/-- R7: bit times of one roll slot, and of one takeover unit. -/
def rollSlotBits : Nat := 300
/-- R7: bit times of one data phase. -/
def dataPhaseBits : Nat := 600
/-- R7: bit times of one cycle. -/
def cycleBits : Nat := 67800
/-- R7, R90, R92: the listen limit, 3 cycle periods. -/
def listenLimit : Nat := 203400
/-- R7, R17: the line-fault limit, 2 cycle periods. -/
def lineFaultLimit : Nat := 135600
/-- R7, R10: half the width of the marker window, both ends included. -/
def windowBits : Nat := 16

/-- R2: bit times from the start of a slot to the first driven bit. -/
def driveOffset : Nat := 8
/-- R2: bit times of the preamble. -/
def preambleBits : Nat := 8
/-- R2: bit times from the sender's slot start to the reference point, the first bit of the start delimiter. -/
def referenceOffset : Nat := driveOffset + preambleBits

/-- R14: the offset from the cycle start of the own roll slot event of address `a`. -/
def rollSlotOffset (a : Addr) : Nat := markerSlotBits + rollSlotBits * a.val
/-- R14: the offset from the cycle start of the roll-call close. -/
def closeOffset : Nat := markerSlotBits + 32 * rollSlotBits
/-- R14: the offset from the cycle start of data phase `k`. -/
def dataPhaseOffset (k : Phase) : Nat := closeOffset + dataPhaseBits * k.val

/-- R90, R92: the takeover delay of address `a`, in bit times. -/
def takeoverDelay (a : Addr) : Nat := (a.val + 1) * rollSlotBits

/-- R1: nanoseconds per bit time for the strap RATE. -/
def bitTimeNs (rate : Bool) : Nat := if rate then 40 else 80

/-- R97: transmit buffers in the pool. -/
def poolSize : Nat := 48
/-- R126: records the receive queue holds at most. -/
def rxQueueSize : Nat := 32
/-- R131: entries the retry list holds at most. -/
def retryListSize : Nat := 16
/-- R55: phases the release list holds at most. -/
def releaseListSize : Nat := 8
/-- R60: the attempt count at which an unfinished claim ends. -/
def claimAttempts : Nat := 4
/-- R30: the learn-attempt count that records SCHEDULE_UNSTABLE. -/
def learnLimit : Nat := 3
/-- R162: read attempts in one START. -/
def readAttempts : Nat := 3
/-- R162: CFG_SCL pulses of one bus check, at most. -/
def busCheckPulses : Nat := 9
/-- R162: clocks of one read transaction: 9 for each of 3 bytes written and 24 read. -/
def readClocks : Nat := 243

end Sys2Proof.Config
end

