-- ==== Sys2Proof/Syntax.lean ====
section
/-!
DEFINITION. The commands of the MU3296: one constructor of `Instr` per row of spec/opcode_table.json. A command is
either a host request (with the argument bytes of its transaction, R171), a pin or timer event, a reception that LIF
hands on (with its bytes from the kind field through the check, R5, R8) or a cycle event of SYNC (R14).
-/

namespace Sys2Proof

/-- The strap pins as CFG samples them (R161). -/
structure Straps where
  /-- ADDR[4:0]: the own address. -/
  addr : Addr
  /-- RATE: 0 is 12.5 Mbit/s, 1 is 25 Mbit/s (R1). -/
  rate : Bool
  /-- CFG_SRC: whether the configuration record is read. -/
  cfgSrc : Bool
deriving DecidableEq, Repr

/-- What the serial configuration memory did in one read attempt that ended without holding the clock (R162): its
acknowledge of the device address with the write direction, of the address byte 00h and of the device address with the
read direction, and the 24 bytes it sent. -/
structure ReadAttempt where
  ackWrite : Bool
  ackAddress : Bool
  ackRead : Bool
  data : Vector Byte 24
deriving DecidableEq, Repr

/-- The result that LIF reaches for a slot (R5), and hands on of a slot that the station itself drove (R11): nothing, a
damaged reception, or an intact one with these bytes from the kind field through the check. -/
inductive Reception where
  | nothing
  | damaged
  | bytes (b : List Byte)
deriving DecidableEq, Repr

/-- R5, R13: how much of a reception a command brings. `whole`: a reception from its first bit to its end. `begins`: its
preamble and start delimiter and its first bytes, and it goes on. `ends`: the rest of the reception in progress. -/
inductive Part where
  | whole
  | begins
  | ends
deriving DecidableEq, Repr

/-- The commands, in the order of spec/opcode_table.json. `args` are a request's argument bytes (the argument length
of its header is their number); `frame` are the bytes a reception brings, of a whole frame those from its kind
field through its check; `part` says how much of the reception they are. `together`: the hand-off or expiry falls at the
same instant as the command taken before it (R150, R157); as a rule it does not. `sdaLow` is the number of CFG_SCL pulses
for which the memory holds CFG_SDA low at a bus check (0: it is high already). -/
inductive Instr where
  | powerOnReset
  | pinReset
  | start (straps : Straps) (sdaLow : Nat)
  | readAttemptEnd (attempt : ReadAttempt)
  /-- `clocks`: the clocks of the attempt's transaction that were complete when the memory held CFG_SCL (R162). -/
  | sclHoldTimeout (clocks : Nat := 0)
  | retryWaitExpiry (sdaLow : Nat)
  /-- `sdi`: the bits that the card controller has SDI carry in this transaction, one for each clock of SCK (R170). -/
  | transactionBegin (sdi : List Bool := [])
  /-- `wholeBytes`: whole bytes of a request that is not complete, shifted in before CS_N rises, beyond those that the
  clocks of SCK have brought (R173). -/
  | transactionEnd (wholeBytes : Nat)
  | badRequest (code : Byte) (args : List Byte)
  | status (args : List Byte)
  | push (args : List Byte)
  | popRx (args : List Byte)
  | popRxCommit
  | popDone (args : List Byte)
  | popDoneCommit
  | claim (args : List Byte)
  | claimAt (args : List Byte)
  | release (args : List Byte)
  | releaseAll (args : List Byte)
  | readTable (args : List Byte)
  | readFaults (args : List Byte)
  | clearFaults (args : List Byte)
  | readEvents (args : List Byte)
  | ackEvents (args : List Byte)
  | setEnables (args : List Byte)
  | stagePattern (args : List Byte)
  | applyPattern (args : List Byte)
  | join (args : List Byte)
  | withdraw (args : List Byte)
  | softReset (args : List Byte)
  | readConfig (args : List Byte)
  /-- `offset`: the marker's place against the cycle start SYNC expected, in bit times (R10, R15). -/
  | markerReceived (frame : List Byte) (offset : Int) (part : Part := .whole) (together : Bool := false)
  | markerSlotEnd (together : Bool := false)
  | rollWordReceived (slot : Addr) (frame : List Byte) (part : Part := .whole) (together : Bool := false)
  | rollSlotDamaged (slot : Addr) (together : Bool := false)
  | dataFrameReceived (phase : Phase) (frame : List Byte) (part : Part := .whole) (together : Bool := false)
  | dataPhaseDamaged (phase : Phase) (together : Bool := false)
  | ownMarkerReadBack (r : Reception)
  | ownRollReadBack (r : Reception)
  | ownDataReadBack (r : Reception)
  | cycleStart
  | ownRollSlot
  | leaveSlotEnd
  | rollCallClose
  | dataPhase (phase : Phase)
  | listenTimerExpiry
  | takeoverTimerExpiry
  | lineFaultTimerExpiry (together : Bool := false)
deriving DecidableEq, Repr

/-- The request code of a host request (R190), for the commands that are requests of one of the 20 names. -/
def Instr.requestCode : Instr → Option Byte
  | .status _ => some 0x01#8
  | .push _ => some 0x02#8
  | .popRx _ => some 0x03#8
  | .popDone _ => some 0x04#8
  | .claim _ => some 0x05#8
  | .claimAt _ => some 0x06#8
  | .release _ => some 0x07#8
  | .releaseAll _ => some 0x08#8
  | .readTable _ => some 0x09#8
  | .readFaults _ => some 0x0A#8
  | .clearFaults _ => some 0x0B#8
  | .readEvents _ => some 0x0C#8
  | .ackEvents _ => some 0x0D#8
  | .setEnables _ => some 0x0E#8
  | .stagePattern _ => some 0x0F#8
  | .applyPattern _ => some 0x10#8
  | .join _ => some 0x11#8
  | .withdraw _ => some 0x12#8
  | .softReset _ => some 0x13#8
  | .readConfig _ => some 0x14#8
  | .powerOnReset => none
  | .pinReset => none
  | .start _ _ => none
  | .readAttemptEnd _ => none
  | .sclHoldTimeout _ => none
  | .retryWaitExpiry _ => none
  | .transactionBegin _ => none
  | .transactionEnd _ => none
  | .badRequest _ _ => none
  | .popRxCommit => none
  | .popDoneCommit => none
  | .markerReceived _ _ _ _ => none
  | .markerSlotEnd _ => none
  | .rollWordReceived _ _ _ _ => none
  | .rollSlotDamaged _ _ => none
  | .dataFrameReceived _ _ _ _ => none
  | .dataPhaseDamaged _ _ => none
  | .ownMarkerReadBack _ => none
  | .ownRollReadBack _ => none
  | .ownDataReadBack _ => none
  | .cycleStart => none
  | .ownRollSlot => none
  | .leaveSlotEnd => none
  | .rollCallClose => none
  | .dataPhase _ => none
  | .listenTimerExpiry => none
  | .takeoverTimerExpiry => none
  | .lineFaultTimerExpiry _ => none

/-- R172 check 1: the code names one of the 20 requests (R190: codes 01h to 14h). -/
def requestCodeNamed (code : Byte) : Bool := 0x01#8 ≤ code && code ≤ 0x14#8

end Sys2Proof
end

