-- ==== Sys2Proof/WellFormed.lean ====
section
/-!
DEFINITION. Which commands can arise: the sizes the formats allow (R2, R171, R187 to R189), a BAD_REQUEST code that
names no request (R172), the bytes of a request that is not complete (R171, R173), a bus check of at most 9 pulses and a
transaction of 243 clocks (R162).
-/

namespace Sys2Proof

/-- R171: an argument length is one byte, 0..255. -/
def argsFit (args : List Byte) : Bool := args.length ≤ 255

/-- R186 to R189: the bytes are of a frame of this kind that can fit its slot (R2). -/
def frameFits (kind : Byte) (lo hi : Nat) (frame : List Byte) : Bool :=
  frame.head? == some kind && lo ≤ frame.length && frame.length ≤ hi

/-- R5: the bytes can be this much of the reception of such a frame. -/
def receptionFits (kind : Byte) (lo hi : Nat) (frame : List Byte) : Part → Bool
  | .whole => frameFits kind lo hi frame
  | .begins => frame.head? == some kind && decide (frame.length < hi)
  | .ends => decide (frame.length < hi)

/-- R2: a read-back is at most as long as the longest frame. -/
def Reception.fits : Reception → Bool
  | .nothing => true
  | .damaged => true
  | .bytes b => b.length ≤ 70

/-- R162: the last pulse of a bus check is the ninth; 10 stands for a CFG_SDA still low after it. -/
def pulsesFit (sdaLow : Nat) : Bool := sdaLow ≤ Config.busCheckPulses + 1

/-- The well-formed commands. -/
def Instr.wellFormed : Instr → Bool
  | .powerOnReset => true
  | .pinReset => true
  | .start _ sdaLow => pulsesFit sdaLow
  | .readAttemptEnd _ => true
  | .sclHoldTimeout clocks => clocks < Config.readClocks
  | .retryWaitExpiry sdaLow => pulsesFit sdaLow
  | .transactionBegin _ => true
  | .transactionEnd wholeBytes => wholeBytes ≤ 256
  | .badRequest code args => !requestCodeNamed code && argsFit args
  | .status args => argsFit args
  | .push args => argsFit args
  | .popRx args => argsFit args
  | .popRxCommit => true
  | .popDone args => argsFit args
  | .popDoneCommit => true
  | .claim args => argsFit args
  | .claimAt args => argsFit args
  | .release args => argsFit args
  | .releaseAll args => argsFit args
  | .readTable args => argsFit args
  | .readFaults args => argsFit args
  | .clearFaults args => argsFit args
  | .readEvents args => argsFit args
  | .ackEvents args => argsFit args
  | .setEnables args => argsFit args
  | .stagePattern args => argsFit args
  | .applyPattern args => argsFit args
  | .join args => argsFit args
  | .withdraw args => argsFit args
  | .softReset args => argsFit args
  | .readConfig args => argsFit args
  | .markerReceived frame _ part _ => receptionFits 0x3C#8 37 37 frame part
  | .markerSlotEnd _ => true
  | .rollWordReceived _ frame part _ => receptionFits 0x5A#8 9 33 frame part
  | .rollSlotDamaged _ _ => true
  | .dataFrameReceived _ frame part _ => receptionFits 0x96#8 10 70 frame part
  | .dataPhaseDamaged _ _ => true
  | .ownMarkerReadBack r => r.fits
  | .ownRollReadBack r => r.fits
  | .ownDataReadBack r => r.fits
  | .cycleStart => true
  | .ownRollSlot => true
  | .leaveSlotEnd => true
  | .rollCallClose => true
  | .dataPhase _ => true
  | .listenTimerExpiry => true
  | .takeoverTimerExpiry => true
  | .lineFaultTimerExpiry _ => true

end Sys2Proof
end

