-- ==== Sys2Proof/Decode.lean ====
section
/-!
DEFINITION. The commands that the bytes of a host transaction spell (R171, R190), and the decoder over the opcode
table's bits. No row of spec/opcode_table.json gives bits (every row's "fields" is empty and none has "fixed"): the
MU3296 takes commands, it fetches no instruction words.
-/

namespace Sys2Proof

/-- The command that a word spells by the table's bits. The table gives no row any bits, so no word spells one. -/
def decodeTableWord (_nbits _w : Nat) : Option Instr := none

/-- R172, R190: the command that a request code picks, with the request's arguments. -/
def requestNamed (code : Byte) (args : List Byte) : Instr :=
  if code = 0x01#8 then .status args else if code = 0x02#8 then .push args else if code = 0x03#8 then .popRx args
  else if code = 0x04#8 then .popDone args else if code = 0x05#8 then .claim args
  else if code = 0x06#8 then .claimAt args else if code = 0x07#8 then .release args
  else if code = 0x08#8 then .releaseAll args else if code = 0x09#8 then .readTable args
  else if code = 0x0A#8 then .readFaults args else if code = 0x0B#8 then .clearFaults args
  else if code = 0x0C#8 then .readEvents args else if code = 0x0D#8 then .ackEvents args
  else if code = 0x0E#8 then .setEnables args else if code = 0x0F#8 then .stagePattern args
  else if code = 0x10#8 then .applyPattern args else if code = 0x11#8 then .join args
  else if code = 0x12#8 then .withdraw args else if code = 0x13#8 then .softReset args
  else if code = 0x14#8 then .readConfig args else .badRequest code args

/-- R171: the command that the bytes shifted in spell: a request is complete, and taken, with the last of the arguments
its header calls for. Bytes that follow it are disregarded. -/
def requestOf : List Byte → Option Instr
  | code :: n :: rest => if n.toNat ≤ rest.length then some (requestNamed code (rest.take n.toNat)) else none
  | _ => none

end Sys2Proof
end

