-- ==== Sys2Proof/Machine/State.lean ====
section
/-!
DEFINITION. The state of one MU3296, block by block, as plain data; the reasons a step can stop; the state after
reset. Each block's structure cites the chapter that lists what the block holds. Fields that the spec implies without
naming are marked "the model's".
-/

namespace Sys2Proof.Machine

/-! ## Names -/

/-- R77, R191: the sync states. -/
inductive SyncState where
  | start | offline | listening | learning | joining | active | relearn | withdrawn
deriving DecidableEq, Repr

/-- R77, R191: the cycle condition. -/
inductive CycleCond where
  | none | running | flywheel | suspended
deriving DecidableEq, Repr

/-- R18: one phase table entry. -/
inductive Entry where
  | vacant
  | owned (owner : Addr)
  | cooling1
  | cooling2
  | unknown
deriving DecidableEq, Repr

/-- R97: the traffic classes 0..3. -/
inductive Cls where
  | c0 | c1 | c2 | c3
deriving DecidableEq, Repr

/-- R97: a frame's destination, a station or broadcast (63). -/
inductive Dest where
  | unicast (a : Addr)
  | broadcast
deriving DecidableEq, Repr

/-- R49, R51, R191: departure reasons. -/
inductive DepartReason where
  | timeout | left | restarted | marker
deriving DecidableEq, Repr

/-- R55, R191: claim outcomes. -/
inductive ClaimOutcome where
  | granted | partly | refused | aborted
deriving DecidableEq, Repr

/-- R65, R66, R191: release outcomes. -/
inductive ReleaseOutcome where
  | applied | aborted
deriving DecidableEq, Repr

/-- R142, R191: completion statuses. -/
inductive DoneStatus where
  | delivered | sent | collided | unconfirmed | noDestination | destLeft | flushed
deriving DecidableEq, Repr

/-- R112: what the own-phase read-backs of the running cycle have shown. -/
inductive CycleMark where
  | none | clean | failed
deriving DecidableEq, Repr

/-- R148: the nineteen fault kinds, in the order of the severity table. -/
inductive FaultKind where
  | configDefaulted | markerLost | rollCheck | unexpectedRoll | frameCheck | foreignFrame | sequenceGap | staleAck
  | rxOverflow | deliveryFailed | txCollision | hostProtocol
  | diverged | scheduleConflict | displaced
  | addressConflict | addressInUse | scheduleUnstable | lineFault
deriving DecidableEq, Repr

/-- R148, R152: severities, with none for a clear record. -/
inductive Severity where
  | none | advisory | degraded | fatal
deriving DecidableEq, Repr

/-- R148, R151: a fault's context. -/
inductive FaultCtx where
  | none
  | frame (source dest cls seq : Byte)
  | sender (a : Addr)
  | phase (k : Phase)
deriving DecidableEq, Repr

/-- R180, R190: the nine events, in bit order. -/
inductive Event where
  | rxReady | doneReady | claimEnd | releaseEnd | membership | syncState | holder | fault | patternApplied
deriving DecidableEq, Repr

/-- R171: the transaction states. -/
inductive TxState where
  | idle | request | reply | trailing
deriving DecidableEq, Repr

/-- R190: the status codes of a reply. -/
inductive Status where
  | ok | empty | poolEmpty | busy | quota | notOwner | notVacant | notActive | state | badArg | badRequest | starting
deriving DecidableEq, Repr

/-- R164, R191: where the configuration in force came from. -/
inductive ConfigSource where
  | record | defaultsByStrap | defaultsByFailure
deriving DecidableEq, Repr

/-- R162, R163, R191: why a record was replaced by defaults. -/
inductive FailReason where
  | noResponse | busFault | signature | version | range | check
deriving DecidableEq, Repr

/-- The model's: how far a reset and START have come. `held`: the cause of a power-on or pin reset lasts (R168).
`sampling`: START begins at step 1 (a soft reset goes there at once). `reading`: step 2 with a read attempt in
progress. `waiting`: step 2 in the 5 ms wait. `done`: step 7 has been reached. -/
inductive StartStep where
  | held | sampling | reading | waiting | done
deriving DecidableEq, Repr

/-- A timer of SYNC or LIF: stopped, or running with its count of bit times (the takeover timer's remaining time,
the other timers' elapsed time). The model does not let the count advance (log entry 4). -/
inductive Timer where
  | stopped
  | running (bits : Nat)
deriving DecidableEq, Repr

/-! ## Frames -/

/-- R187: the content of a start marker. `presence`: per address, its absence count if it is present. -/
structure Marker where
  number : Half
  holder : Addr
  limit : Nat
  presence : Vector (Option Nat) 32
  digest : Half
  segment : Vector Byte 12
deriving DecidableEq, Repr

/-- R188: the content of a roll word, as its bytes carry it. -/
structure RollWord where
  sender : Byte
  join : Bool
  leave : Bool
  releaseAll : Bool
  relearning : Bool
  degraded : Bool
  digest : Half
  claims : List Byte
  releases : List Byte
  acks : List (Byte × Byte)
deriving DecidableEq, Repr

/-- R189: the content of a data frame, as its bytes carry it. -/
structure DataFrame where
  source : Byte
  dest : Byte
  cls : Byte
  seq : Byte
  payload : List Byte
deriving DecidableEq, Repr

/-! ## LIF (chapter The Line and the Cycle) -/

/-- R11: the kind and slot of a transmission, with the class queue whose head it sent where it is a broadcast. -/
inductive SentFrame where
  | marker
  | roll (w : RollWord)
  | data (k : Phase) (broadcast : Option Cls)
deriving DecidableEq, Repr

/-- R11: the transmission record: what is sent, and the bytes from the kind field through the check. -/
structure TxRecord where
  frame : SentFrame
  bytes : List Byte
deriving DecidableEq, Repr

/-- R13: what LIF holds: the transmission record, by which it drives the line (R2, `TxRecord.drivenBit`); the reception
in progress, with its bytes so far from the kind field on; the roll slots and data phases of this cycle whose one
reception it has had (R5); the line-fault timer. A slot that the station drives is received too: its record stands for
that reception until the read-back (R11). -/
structure Lif where
  tx : Option TxRecord
  rx : Option (List Byte)
  /-- R5: the roll slots of this cycle that have had their one reception. -/
  rollDone : Vector Bool 32
  /-- R5: the data phases of this cycle that have had their one reception. -/
  phaseDone : Vector Bool 96
  lineFaultTimer : Timer
deriving DecidableEq, Repr

/-! ## SYNC (chapter Synchronization and the Timing Holder) -/

/-- The model's (R157, log entry 31): what the station was at the instant it entered WITHDRAWN, as far as a fault
reported at that same instant asks: its sync state; whether it had slot timing; whether the end of a marker slot would
have been MARKER_LOST (R88); the data phase it drove; whether the line-fault timer ran. -/
structure Left where
  state : SyncState
  timing : Bool
  markerMissing : Bool
  drove : Option Phase
  faultTimer : Bool
deriving DecidableEq, Repr

/-- What SYNC holds, with four fields of the model's own at the end. -/
structure Sync where
  state : SyncState
  cond : CycleCond
  holder : Bool
  holderAddr : Option Addr
  holderVacant : Bool
  cycleNumber : Option Half
  lost : Nat
  takeoverTimer : Timer
  listenTimer : Timer
  withdrawPending : Bool
  /-- The model's: the marker slot of this cycle has had its one result, a valid marker or an end without one (R5, R16,
  R80). -/
  markerDone : Bool
  /-- The model's: this cycle's own roll slot carries a LEAVE (R94). -/
  leaveSent : Bool
  /-- The model's: how far this cycle's start was moved by its marker, in bit times (R15). -/
  cycleShift : Int
  /-- The model's: what the last entry to WITHDRAWN left (R157). -/
  left : Option Left
deriving DecidableEq, Repr

/-! ## PTU (chapter The Phase Table) -/

/-- What the PTU holds. `digest` is absent while it is not valid. -/
structure Ptu where
  table : Vector Entry 96
  digest : Option Half
  known : Vector Bool 8
  learnAttempts : Nat
deriving DecidableEq, Repr

/-! ## RCM (chapter Roll Call and Membership) -/

/-- R52: the last arrival record. -/
structure Arrival where
  addr : Addr
  cycle : Half
deriving DecidableEq, Repr

/-- R51: the last departure record. -/
structure Departure where
  addr : Addr
  reason : DepartReason
  cycle : Half
deriving DecidableEq, Repr

/-- What RCM holds. `presence` is the presence map with the absence counts: a present address carries its count. -/
structure Rcm where
  presence : Vector (Option Nat) 32
  absenceLimit : Nat
  degraded : Vector Bool 32
  ownCollisions : Nat
  record : Vector (Option RollWord) 32
  tally : Nat
  disagreeing : Nat
  lastArrival : Option Arrival
  lastDeparture : Option Departure
deriving DecidableEq, Repr

/-! ## CRU (chapter Claims, Releases and the Roll-Call Close) -/

/-- R55: the kind of a claim, with the target phase of kind AT. -/
inductive ClaimKind where
  | count
  | at (target : Phase)
deriving DecidableEq, Repr

/-- A PENDING claim. -/
structure Claim where
  kind : ClaimKind
  requested : Nat
  granted : List Phase
  attempts : Nat
deriving DecidableEq, Repr

/-- R65: the releases carried by the last normal roll word built. -/
structure Carried where
  phases : List Phase
  all : Bool
deriving DecidableEq, Repr

/-- What CRU holds. The claim register is IDLE when `claim` is absent. -/
structure Cru where
  claim : Option Claim
  lastClaim : Option (ClaimOutcome × List Phase)
  releases : List Phase
  releaseAll : Bool
  carried : Option Carried
  lastRelease : Option ReleaseOutcome
deriving DecidableEq, Repr

/-! ## TXE and DLT (chapters Transmit Path, Delivery Tracking and Completions) -/

/-- R97: the frame a transmit buffer holds. -/
structure TxFrame where
  dest : Dest
  cls : Cls
  tag : Half
  payload : List Byte
  seq : Option Byte
  attempts : Nat
deriving DecidableEq, Repr

/-- What TXE holds. `free` counts the FREE buffers; the QUEUED ones stand in the four class queues, head first. -/
structure Txe where
  free : Nat
  q0 : List TxFrame
  q1 : List TxFrame
  q2 : List TxFrame
  q3 : List TxFrame
  pattern : Vector Cls 16
  staged : Vector Cls 16
  applyPending : Bool
  pointer : Fin 16
  nextSeq : Vector Byte 32
  bcastSeq : Byte
  conflict : Nat
  mark : CycleMark
deriving DecidableEq, Repr

/-- R131: one retry list entry and its AWAITING_ACK buffer. The entry's destination, sequence and attempts are the
frame's. It is DUE while `due`, its due-order, is present, and WAITING otherwise. -/
structure RetryEntry where
  frame : TxFrame
  age : Nat
  due : Option Byte
  closed : Bool
deriving DecidableEq, Repr

/-- R97, R143: a DONE buffer with its completion. The cycle is absent where it was not known. -/
structure DoneRec where
  frame : TxFrame
  status : DoneStatus
  cycle : Option Half
deriving DecidableEq, Repr

/-- What DLT holds. -/
structure Dlt where
  retry : List RetryEntry
  dueCounter : Byte
  done : List DoneRec
deriving DecidableEq, Repr

/-! ## RXE (chapter Receive Path) -/

/-- R126: one record of the receive queue. -/
structure RxRecord where
  source : Addr
  dest : Dest
  cls : Cls
  seq : Byte
  payload : List Byte
  cycle : Half
  phase : Phase
deriving DecidableEq, Repr

/-- What RXE holds. A last-accepted record that is FRESH is absent. -/
structure Rxe where
  queue : List RxRecord
  lastAcc : Vector (Option Byte) 32
  acks : List (Addr × Byte)
deriving DecidableEq, Repr

/-! ## FRU (chapter Faults) -/

/-- R151: the first-fault record. -/
structure FirstFault where
  kind : FaultKind
  cycle : Option Half
  state : SyncState
  ctx : FaultCtx
deriving DecidableEq, Repr

/-- What FRU holds. `seen` and `counts` are indexed by the fault kind's code (R191), bit i of `mask` by kind i. -/
structure Fru where
  seen : Vector Bool 19
  counts : Vector Nat 19
  first : Option FirstFault
  highest : Severity
  mask : BitVec 15
deriving DecidableEq, Repr

/-! ## CFG (chapter Start-up and Configuration) -/

/-- R165: the configuration in force. -/
structure Configuration where
  absenceLimit : Nat
  retryTimeout : Nat
  retryLimit : Nat
  quota : Nat
  autoJoin : Bool
  enables : BitVec 9
  mask : BitVec 15
  pattern : Vector Cls 16
deriving DecidableEq, Repr

/-- R162: one thing CFG does on CFG_SCL and CFG_SDA, as the only master of the two pins. `pulse`: a clock of the bus
check. `bit v`: one clock of a byte, in which CFG leaves CFG_SDA high (1) or holds it low (0). `release`: both pins are
let go where a hold of CFG_SCL or a failed bus check ends the attempt. -/
inductive BusStep where
  | pulse
  | startCondition
  | repeatedStart
  | bit (v : Bool)
  | stopCondition
  | release
deriving DecidableEq, Repr

/-- What CFG holds. `source` is absent while no configuration is in force (R168). -/
structure Cfg where
  straps : Straps
  config : Configuration
  source : Option ConfigSource
  failure : Option FailReason
  attempts : Nat
  /-- The model's: how far START has come. -/
  step : StartStep
  /-- The model's: the CFG_SCL pulses of the last bus check (R162). -/
  sclPulses : Nat
  /-- R162: what CFG has done on its two pins in the current read attempt, or the last one of this START. -/
  bus : List BusStep
deriving DecidableEq, Repr

/-! ## HP (chapter Host Port) -/

/-- R171: a reply, with the count of its bytes shifted out, of which the status code and the reply length are the first
two (R190). -/
structure Reply where
  status : Status
  data : List Byte
  shifted : Nat
deriving DecidableEq, Repr

/-- What HP holds: in REQUEST `request` is what has been shifted in of the request, from its taking on the whole
request; with the level of CS_N and an accepted SOFT_RESET that waits for its rising edge (R175). -/
structure Hp where
  csLow : Bool
  /-- The model's: what the card controller has yet to shift in, in this transaction, bit by bit (R170). -/
  sdi : List Bool
  /-- R170, R171: the bits of the byte in progress, in the order in which they were sampled. -/
  bits : List Bool
  tx : TxState
  request : List Byte
  reply : Option Reply
  softReset : Bool
  events : BitVec 9
  enables : BitVec 9
deriving DecidableEq, Repr

/-! ## The station -/

/-- One MU3296, with the commands that wait for it, first in, first out. -/
structure State where
  lif : Lif
  sync : Sync
  ptu : Ptu
  rcm : Rcm
  cru : Cru
  txe : Txe
  dlt : Dlt
  rxe : Rxe
  fru : Fru
  cfg : Cfg
  hp : Hp
  pending : List Instr
deriving DecidableEq, Repr

/-- The reasons a step could stop with a fault. There is none: the spec gives every command an effect in every state,
and the part's own faults (R148) are recorded in `Fru`, after which the machine goes on. Safe: no step stops here. -/
inductive Fault : Type
deriving DecidableEq, Repr

/-- The reasons a command could be refused. -/
inductive Refusal where
  /-- An arm of `exec` that has no meaning yet answers this. Safe: the machine stops. No arm answers it. -/
  | notModelled (mnemonic : String)
deriving DecidableEq, Repr

/-- The command has its effect and the machine goes on. -/
abbrev Answer := Host.Outcome State Fault Refusal

/-! ## Updates, one per block -/

/-- `s` with LIF's state replaced. -/
def State.withLif (s : State) (v : Lif) : State := { s with lif := v }
/-- `s` with SYNC's state replaced. -/
def State.withSync (s : State) (v : Sync) : State := { s with sync := v }
/-- `s` with the PTU's state replaced. -/
def State.withPtu (s : State) (v : Ptu) : State := { s with ptu := v }
/-- `s` with RCM's state replaced. -/
def State.withRcm (s : State) (v : Rcm) : State := { s with rcm := v }
/-- `s` with CRU's state replaced. -/
def State.withCru (s : State) (v : Cru) : State := { s with cru := v }
/-- `s` with TXE's state replaced. -/
def State.withTxe (s : State) (v : Txe) : State := { s with txe := v }
/-- `s` with DLT's state replaced. -/
def State.withDlt (s : State) (v : Dlt) : State := { s with dlt := v }
/-- `s` with RXE's state replaced. -/
def State.withRxe (s : State) (v : Rxe) : State := { s with rxe := v }
/-- `s` with FRU's state replaced. -/
def State.withFru (s : State) (v : Fru) : State := { s with fru := v }
/-- `s` with CFG's state replaced. -/
def State.withCfg (s : State) (v : Cfg) : State := { s with cfg := v }
/-- `s` with HP's state replaced. -/
def State.withHp (s : State) (v : Hp) : State := { s with hp := v }
/-- `s` with the queue of waiting commands replaced. -/
def State.withPending (s : State) (v : List Instr) : State := { s with pending := v }

/-! ## Reset values -/

/-- R13: LIF after any reset. -/
def Lif.reset : Lif :=
  { tx := none, rx := none, rollDone := Vector.replicate 32 false, phaseDone := Vector.replicate 96 false,
    lineFaultTimer := .stopped }

/-- R96: SYNC after any reset. -/
def Sync.reset : Sync :=
  { state := .start, cond := .none, holder := false, holderAddr := none, holderVacant := false, cycleNumber := none,
    lost := 0, takeoverTimer := .stopped, listenTimer := .stopped, withdrawPending := false, markerDone := false,
    leaveSent := false, cycleShift := 0, left := none }

/-- R34: the PTU after any reset. -/
def Ptu.reset : Ptu :=
  { table := Vector.replicate 96 .unknown, digest := none, known := Vector.replicate 8 false, learnAttempts := 0 }

/-- R101, R165: the default service pattern. -/
def defaultPattern : Vector Cls 16 :=
  #v[.c0, .c1, .c0, .c2, .c0, .c1, .c0, .c3, .c0, .c1, .c0, .c2, .c0, .c1, .c0, .c3]

/-- R165: the default configuration. -/
def Configuration.defaults : Configuration :=
  { absenceLimit := 3, retryTimeout := 4, retryLimit := 3, quota := 24, autoJoin := false, enables := 0#9,
    mask := 0#15, pattern := defaultPattern }

/-- R54: RCM after any reset. DESIGN CHOICE (log entry 7): until START puts a configuration in force, the absence
limit reads as the default one. -/
def Rcm.reset : Rcm :=
  { presence := Vector.replicate 32 none, absenceLimit := Configuration.defaults.absenceLimit,
    degraded := Vector.replicate 32 false, ownCollisions := 0, record := Vector.replicate 32 none, tally := 0,
    disagreeing := 0, lastArrival := none, lastDeparture := none }

/-- R76: CRU after any reset. -/
def Cru.reset : Cru :=
  { claim := none, lastClaim := none, releases := [], releaseAll := false, carried := none, lastRelease := none }

/-- R116: TXE after any reset. DESIGN CHOICE (log entry 7): until START puts a configuration in force, the patterns
read as the default one. -/
def Txe.reset : Txe :=
  { free := Config.poolSize, q0 := [], q1 := [], q2 := [], q3 := [], pattern := defaultPattern,
    staged := defaultPattern, applyPending := false, pointer := 0, nextSeq := Vector.replicate 32 0#8,
    bcastSeq := 0#8, conflict := 0, mark := .none }

/-- R147: DLT after any reset. -/
def Dlt.reset : Dlt := { retry := [], dueCounter := 0#8, done := [] }

/-- R130: RXE after any reset. -/
def Rxe.reset : Rxe := { queue := [], lastAcc := Vector.replicate 32 none, acks := [] }

/-- R159: the fault record after power-on reset. DESIGN CHOICE (log entry 7): until START puts a configuration in
force, the mask reads as the default one, which masks nothing. -/
def Fru.cleared : Fru :=
  { seen := Vector.replicate 19 false, counts := Vector.replicate 19 0, first := none, highest := .none, mask := 0#15 }

/-- R168: CFG after any reset: strap values, configuration, source and reason discarded. DESIGN CHOICE (log entry 7):
the discarded straps read as 0 and the discarded configuration as the default one; no request shows either. -/
def Cfg.reset : Cfg :=
  { straps := { addr := 0, rate := false, cfgSrc := false }, config := Configuration.defaults, source := none,
    failure := none, attempts := 0, step := .held, sclPulses := 0, bus := [] }

/-- R185: HP after any reset, with CS_N high. -/
def Hp.reset : Hp :=
  { csLow := false, sdi := [], bits := [], tx := .idle, request := [], reply := none, softReset := false, events := 0#9, enables := 0#9 }

/-- The machine right after power-on reset, before START begins: every block at its reset values (R13, R34, R54, R76,
R96, R116, R130, R147, R159, R168, R185), CS_N high, no command waiting. -/
def State.reset : State :=
  { lif := Lif.reset, sync := Sync.reset, ptu := Ptu.reset, rcm := Rcm.reset, cru := Cru.reset, txe := Txe.reset,
    dlt := Dlt.reset, rxe := Rxe.reset, fru := Fru.cleared, cfg := Cfg.reset, hp := Hp.reset, pending := [] }

end Sys2Proof.Machine
end

