-- ==== Sys2Proof/Machine/Operands.lean ====
section
/-!
DEFINITION. Bytes and fields: byte order, the checks (R3, R4), the entry byte (R186), the layouts of the three line
frames with what makes a reception intact (R5, R187 to R189), the configuration record (R163, R194) and the codes of
enumerated items (R190, R191).
-/

namespace Sys2Proof.Machine

/-! ## Tables indexed by a number -/

/-- The vector whose element `i` is `f i`. -/
def tab {n : Nat} {α : Type} (f : Fin n → α) : Vector α n := ⟨(List.ofFn f).toArray, by simp⟩

/-! ## Byte order (chapter Formats: high byte first) -/

/-- The high byte of a 16-bit value. -/
def hiByte (h : Half) : Byte := h.extractLsb' 8 8
/-- The low byte of a 16-bit value. -/
def loByte (h : Half) : Byte := h.extractLsb' 0 8
/-- A 16-bit value, high byte first. -/
def half (hi lo : Byte) : Half := hi ++ lo
/-- The bytes of a 16-bit value, in sending order. -/
def halfBytes (h : Half) : List Byte := [hiByte h, loByte h]
/-- A count, address or index as one byte. -/
def byteOf (n : Nat) : Byte := BitVec.ofNat 8 n
/-- Byte `i` of a frame. -/
def at' (b : List Byte) (i : Nat) : Byte := b.getD i 0#8
/-- R191: a flag as one byte. -/
def flagByte (f : Bool) : Byte := if f then 0x01#8 else 0x00#8

/-- The number whose digits in base `b`, most significant first, are `ds`. -/
def packDigits (b : Nat) (ds : List Nat) : Nat := ds.foldl (fun n d => n * b + d) 0
/-- The lowest `len` digits of `n` in base `b`, most significant first. -/
def unpackDigits (b len n : Nat) : List Nat := (List.range len).map fun i => n / b ^ (len - 1 - i) % b

/-- `len` bytes that hold `n`, most significant first. -/
def natBytes (len n : Nat) : List Byte := (unpackDigits 256 len n).map byteOf
/-- The number held by bytes, most significant first. -/
def bytesNat (bs : List Byte) : Nat := packDigits 256 (bs.map BitVec.toNat)

/-- R186: an address set in 4 bytes, address 0 the top bit of the first byte. -/
def addressSet (v : Vector Bool 32) : List Byte := natBytes 4 (packDigits 2 (v.toList.map Bool.toNat))

/-- R187: absence counts in 12 bytes, 3 bits per address, address 0 in the top bits. -/
def countBytes (v : Vector Nat 32) : List Byte := natBytes 12 (packDigits 8 (v.toList.map (· % 8)))

/-! ## Checks -/

/-- R3: one bit of the division by x^16 + x^12 + x^5 + 1. -/
def crc16Bit (c : BitVec 16) (bit : Bool) : BitVec 16 :=
  if c.msb != bit then (c <<< 1) ^^^ 0x1021#16 else c <<< 1

/-- R3: one byte, most significant bit first. -/
def crc16Byte (c : BitVec 16) (b : Byte) : BitVec 16 :=
  [7, 6, 5, 4, 3, 2, 1, 0].foldl (fun c i => crc16Bit c (b.getLsbD i)) c

/-- R3: the 16-bit check over bytes in sending order, preset to FFFFh, not inverted. -/
def crc16 (bs : List Byte) : BitVec 16 := bs.foldl crc16Byte 0xFFFF#16

/-- R4: one bit of the division by the 32-bit generator. -/
def crc32Bit (c : BitVec 32) (bit : Bool) : BitVec 32 :=
  if c.msb != bit then (c <<< 1) ^^^ 0x04C11DB7#32 else c <<< 1

/-- R4: one byte, most significant bit first. -/
def crc32Byte (c : BitVec 32) (b : Byte) : BitVec 32 :=
  [7, 6, 5, 4, 3, 2, 1, 0].foldl (fun c i => crc32Bit c (b.getLsbD i)) c

/-- R4: the 32-bit check over bytes in sending order, preset to FFFFFFFFh, inverted. -/
def crc32 (bs : List Byte) : BitVec 32 := ~~~ bs.foldl crc32Byte 0xFFFFFFFF#32

/-- R3: the check bytes, high byte first. -/
def check16 (bs : List Byte) : List Byte := halfBytes (crc16 bs)

/-- R4: the check bytes, most significant byte first. -/
def check32 (bs : List Byte) : List Byte :=
  let c := crc32 bs
  [c.extractLsb' 24 8, c.extractLsb' 16 8, c.extractLsb' 8 8, c.extractLsb' 0 8]

/-! ## Bits (R2, R170: a byte travels most significant bit first) -/

/-- The bits of a byte, in the order in which they travel. -/
def byteBits (b : Byte) : List Bool := [7, 6, 5, 4, 3, 2, 1, 0].map fun i => b.getLsbD i

/-- The byte that 8 bits make, in the order in which they came. -/
def byteOfBits (l : List Bool) : Byte := byteOf (packDigits 2 (l.map Bool.toNat))

/-- The whole bytes that bits make. -/
def bitBytes (l : List Bool) : List Byte :=
  (List.range (l.length / 8)).map fun i => byteOfBits ((l.drop (8 * i)).take 8)

/-- R5: the last two bytes are the check of those before them. -/
def check16Ok (b : List Byte) : Bool := b.drop (b.length - 2) == check16 (b.take (b.length - 2))

/-- R5: the last four bytes are the check of those before them. -/
def check32Ok (b : List Byte) : Bool := b.drop (b.length - 4) == check32 (b.take (b.length - 4))

/-! ## Classes, addresses, destinations, entries -/

/-- An address field that names a station, 0..31. -/
def addrOf (b : Byte) : Option Addr := if h : b.toNat < 32 then some ⟨b.toNat, h⟩ else none

/-- A phase index field in range, 0..95. -/
def phaseOf (b : Byte) : Option Phase := if h : b.toNat < 96 then some ⟨b.toNat, h⟩ else none

/-- An address or a phase index as a byte. -/
def finByte {n : Nat} (a : Fin n) : Byte := byteOf a.val

/-- The byte of a class. -/
def Cls.byte : Cls → Byte
  | .c0 => 0#8
  | .c1 => 1#8
  | .c2 => 2#8
  | .c3 => 3#8

/-- The class a byte names, 0..3. -/
def clsOf (b : Byte) : Option Cls :=
  if b = 0#8 then some .c0 else if b = 1#8 then some .c1 else if b = 2#8 then some .c2
  else if b = 3#8 then some .c3 else none

/-- R189: a destination's byte, 63 for broadcast. -/
def Dest.byte : Dest → Byte
  | .unicast a => finByte a
  | .broadcast => 63#8

/-- R98: the destination a byte names, 0..31 or 63. -/
def destOf (b : Byte) : Option Dest := if b = 63#8 then some .broadcast else (addrOf b).map .unicast

/-- R186: the entry byte. -/
def Entry.byte : Entry → Byte
  | .vacant => 0x00#8
  | .cooling1 => 0x41#8
  | .cooling2 => 0x42#8
  | .owned a => 0x80#8 + finByte a
  | .unknown => 0xFF#8

/-- R27: the entry a segment byte encodes; UNKNOWN's encoding and every other value give none. -/
def segmentEntry (b : Byte) : Option Entry :=
  if b = 0x00#8 then some .vacant else if b = 0x41#8 then some .cooling1 else if b = 0x42#8 then some .cooling2
  else if 0x80#8 ≤ b then (addrOf (b - 0x80#8)).map .owned else none

/-! ## Start marker (R187) -/

/-- Whether each address is present. -/
def presentFlags (p : Vector (Option Nat) 32) : Vector Bool 32 := tab fun a => p[a].isSome

/-- R187: the absence counts as sent: 0 for an absent address. -/
def sentCounts (p : Vector (Option Nat) 32) : Vector Nat 32 := tab fun a => p[a].getD 0

/-- R187: the bytes of a start marker before its check. -/
def Marker.body (m : Marker) : List Byte :=
  [0x3C#8] ++ halfBytes m.number ++ [finByte m.holder, byteOf m.limit] ++ addressSet (presentFlags m.presence)
    ++ countBytes (sentCounts m.presence) ++ halfBytes m.digest ++ m.segment.toList

/-- R187: the bytes of a start marker from its kind field through its check. -/
def Marker.bytes (m : Marker) : List Byte := m.body ++ check16 m.body

/-- R187: the presence map and the counts of its present addresses that a marker's bytes carry. -/
def markerPresence (b : List Byte) : Vector (Option Nat) 32 :=
  let present := bytesNat ((b.drop 5).take 4)
  let counts := bytesNat ((b.drop 9).take 12)
  tab fun a => if present / 2 ^ (31 - a.val) % 2 = 1 then some (counts / 8 ^ (31 - a.val) % 8) else none

/-- R5, R187: the marker that bytes hold, if they are an intact one that a receiver does not treat as damaged. -/
def parseMarker (b : List Byte) : Option Marker :=
  if b.length = 37 ∧ at' b 0 = 0x3C#8 ∧ check16Ok b = true then
    match addrOf (at' b 3) with
    | none => none
    | some holder =>
      if 2 ≤ (at' b 4).toNat ∧ (at' b 4).toNat ≤ 7 then
        some { number := half (at' b 1) (at' b 2), holder := holder, limit := (at' b 4).toNat,
               presence := markerPresence b, digest := half (at' b 21) (at' b 22),
               segment := tab fun i => at' b (23 + i.val) }
      else none
  else none

/-! ## Roll word (R188) -/

/-- R188: the flags byte. -/
def RollWord.flags (w : RollWord) : Byte :=
  (if w.join then 0x80#8 else 0#8) ||| (if w.leave then 0x40#8 else 0#8) ||| (if w.releaseAll then 0x20#8 else 0#8)
    ||| (if w.relearning then 0x10#8 else 0#8) ||| (if w.degraded then 0x08#8 else 0#8)

/-- R188: the ack list, per entry the original source, then the sequence. -/
def ackBytes (acks : List (Byte × Byte)) : List Byte := acks.flatMap fun p => [p.1, p.2]

/-- R188: the bytes of a roll word before its check. -/
def RollWord.body (w : RollWord) : List Byte :=
  [0x5A#8, w.sender, w.flags] ++ halfBytes w.digest ++ [byteOf (w.claims.length * 16 + w.releases.length),
    byteOf w.acks.length] ++ w.claims ++ w.releases ++ ackBytes w.acks

/-- R188: the bytes of a roll word from its kind field through its check. -/
def RollWord.bytes (w : RollWord) : List Byte := w.body ++ check16 w.body

/-- The pairs of a list of bytes, in order. -/
def bytePairs : List Byte → List (Byte × Byte)
  | a :: b :: rest => (a, b) :: bytePairs rest
  | _ => []

/-- R5, R188: the roll word that bytes hold, if they are an intact one. -/
def parseRollWord (b : List Byte) : Option RollWord :=
  let nc := (at' b 5).toNat / 16
  let nr := (at' b 5).toNat % 16
  let na := (at' b 6).toNat % 16
  if at' b 0 = 0x5A#8 ∧ nc ≤ 8 ∧ nr ≤ 8 ∧ na ≤ 4 ∧ b.length = 9 + nc + nr + 2 * na ∧ check16Ok b = true then
    some { sender := at' b 1, join := (at' b 2).getLsbD 7, leave := (at' b 2).getLsbD 6,
           releaseAll := (at' b 2).getLsbD 5, relearning := (at' b 2).getLsbD 4, degraded := (at' b 2).getLsbD 3,
           digest := half (at' b 3) (at' b 4), claims := (b.drop 7).take nc, releases := (b.drop (7 + nc)).take nr,
           acks := bytePairs ((b.drop (7 + nc + nr)).take (2 * na)) }
  else none

/-- R41 check 3: the list is strictly ascending. -/
def ascending (l : List Byte) : Bool := l.Pairwise (fun a b => a.toNat < b.toNat)

/-- R41 check 3: the form of a roll word of slot `k`. -/
def RollWord.wellFormed (w : RollWord) (k : Addr) : Bool :=
  let kinds := w.join.toNat + w.leave.toNat + w.relearning.toNat
  (decide (kinds ≤ 1))
    && !(w.releaseAll && (w.join || w.leave || w.relearning))
    && !(w.join && !(w.claims.isEmpty && w.releases.isEmpty && w.acks.isEmpty))
    && !((w.relearning || w.leave) && !(w.claims.isEmpty && w.releases.isEmpty))
    && (w.claims ++ w.releases).all (fun p => (phaseOf p).isSome)
    && ascending w.claims && ascending w.releases
    && w.acks.all (fun p => decide (p.1.toNat ≤ 31) && p.1 != finByte k)

/-! ## Data frame (R189) -/

/-- R189: the bytes of a data frame before its check. -/
def DataFrame.body (f : DataFrame) : List Byte :=
  [0x96#8, f.source, f.dest, f.cls, f.seq, byteOf f.payload.length] ++ f.payload

/-- R189: the bytes of a data frame from its kind field through its check. -/
def DataFrame.bytes (f : DataFrame) : List Byte := f.body ++ check32 f.body

/-- R5, R189: the data frame that bytes hold, if they are an intact one. -/
def parseDataFrame (b : List Byte) : Option DataFrame :=
  let n := (at' b 5).toNat
  if at' b 0 = 0x96#8 ∧ n ≤ 60 ∧ n % 4 = 0 ∧ b.length = 10 + n ∧ check32Ok b = true then
    some { source := at' b 1, dest := at' b 2, cls := at' b 3, seq := at' b 4, payload := (b.drop 6).take n }
  else none

/-! ## Receptions (R5) -/

/-- R1: what one bit time of the line shows: the idle level, a transition at its middle that is a 1 or a 0, or a driver
without one, which is a code violation. -/
inductive LineBit where
  | idle
  | bit (v : Bool)
  | violation
deriving DecidableEq, Repr

/-- R1: the bit that a bit time carries. -/
def LineBit.value : LineBit → Option Bool
  | .idle => none
  | .bit v => some v
  | .violation => none

/-- R5, R187 to R189: the length of a frame, by its kind and by the fields that fix it, where the kind is one of the
three and those fields are in their ranges. -/
def frameLength (b : List Byte) : Option Nat :=
  if at' b 0 = 0x3C#8 then some 37
  else if at' b 0 = 0x5A#8 then
    let nc := (at' b 5).toNat / 16
    let nr := (at' b 5).toNat % 16
    let na := (at' b 6).toNat % 16
    if nc ≤ 8 ∧ nr ≤ 8 ∧ na ≤ 4 then some (9 + nc + nr + 2 * na) else none
  else if at' b 0 = 0x96#8 then
    let n := (at' b 5).toNat
    if n ≤ 60 ∧ n % 4 = 0 then some (10 + n) else none
  else none

/-- R5: the bytes are a frame of one of the three kinds whose check is correct, and not one that R187 has a receiver treat
as damaged. -/
def intactFrame (b : List Byte) : Bool :=
  (parseMarker b).isSome || (parseRollWord b).isSome || (parseDataFrame b).isSome

/-- R5: of the 4 bit times behind a frame, or of as many as its slot has left: the line is back at the idle level and
shows no transition. -/
def idleAgain (rest : List LineBit) : Bool :=
  let l := (rest.take 4).dropWhile (· == .violation)
  !l.isEmpty && l.all (· == .idle)

/-- R5: the result of a slot from its bit times, from the one in which its reception begins to the end of the slot: the
first activity is the slot's one reception. It is intact if it is a preamble AAh, the start delimiter B3h, and a frame of
the length that its own fields fix, without a code violation, with its check correct and the line idle again behind it,
all before the slot ends. -/
def receive (line : List LineBit) : Reception :=
  let activity := line.dropWhile (· == .idle)
  if activity.isEmpty then .nothing
  else
    match bitBytes ((activity.takeWhile fun x => x.value.isSome).filterMap LineBit.value) with
    | p :: d :: rest =>
      match frameLength rest with
      | none => .damaged
      | some n =>
        if p = 0xAA#8 ∧ d = 0xB3#8 ∧ n ≤ rest.length ∧ intactFrame (rest.take n) = true ∧
            idleAgain (activity.drop (16 + 8 * n)) = true then .bytes (rest.take n)
        else .damaged
    | _ => .damaged

/-- What the line shows in each bit time, counted from the cycle start that SYNC expected; those before it are negative. -/
abbrev Line := Int → LineBit

/-- The bit times from `a` on and before `b`. -/
def Line.between (line : Line) (a b : Int) : List LineBit := (List.range (b - a).toNat).map fun i => line (a + (i : Int))

/-- R5: the activity that is still on the line when a slot begins at `a` is counted again as activity of that slot: its
bit times before `a`, as far back as they tell whether the start delimiter behind a preamble begins in the slot. -/
def Line.carried (line : Line) (a : Int) : List LineBit :=
  if line a = .idle then []
  else ((line.between (a - (Config.preambleBits + 1)) a).reverse.takeWhile (· != .idle)).reverse

/-- R5: the result of the slot from `a` to `b`. A reception belongs to the slot in which its start delimiter begins, so
one whose preamble began before `a` is that of this slot too; of an activity that began earlier still, this slot has no
delimiter. What goes on at `b` is cut there. -/
def Line.reception (line : Line) (a b : Int) : Reception :=
  if Config.preambleBits < (line.carried a).length then .damaged else receive (line.carried a ++ line.between a b)

/-- R2, R10: the reference point of that reception, the bit time in which its start delimiter begins. -/
def Line.reference (line : Line) (a b : Int) : Int :=
  a - (line.carried a).length + ((line.between a b).takeWhile (· == .idle)).length + Config.preambleBits

/-! ## Configuration record (R163, R194) -/

/-- R194: the check byte makes the sum of all 24 bytes 0 mod 256. -/
def recordSum (v : Vector Byte 24) : Nat := (v.toList.map BitVec.toNat).sum % 256

/-- R194: entry `i` of the service pattern, 4 bits, entry 0 in the high half of byte 12. -/
def recordClass (v : Vector Byte 24) (i : Fin 16) : Option Cls :=
  let b := (v[12 + i.val / 2]'(by omega)).toNat
  clsOf (byteOf (if i.val % 2 = 0 then b / 16 else b % 16))

/-- R165, R194: every field of the record is in its range. -/
def recordInRange (v : Vector Byte 24) : Bool :=
  decide (2 ≤ v[3].toNat ∧ v[3].toNat ≤ 7) && decide (2 ≤ v[4].toNat ∧ v[4].toNat ≤ 15)
    && decide (v[5].toNat ≤ 7) && decide (1 ≤ v[6].toNat ∧ v[6].toNat ≤ 96) && decide (v[7].toNat ≤ 1)
    && decide (v[8].toNat ≤ 1) && decide (v[10].toNat ≤ 127)
    && (List.finRange 16).all (fun i => (recordClass v i).isSome)
    && v[20] == 0#8 && v[21] == 0#8 && v[22] == 0#8

/-- R194: the fields of a record. -/
def recordFields (v : Vector Byte 24) : Configuration :=
  { absenceLimit := v[3].toNat, retryTimeout := v[4].toNat, retryLimit := v[5].toNat, quota := v[6].toNat,
    autoJoin := v[7] == 1#8, enables := (half v[8] v[9]).setWidth 9, mask := (half v[10] v[11]).setWidth 15,
    pattern := tab fun i => (recordClass v i).getD .c0 }

/-- R163: the checks in order; the first that fails gives the reason. -/
def validateRecord (v : Vector Byte 24) : Except FailReason Configuration :=
  if v[0] ≠ 0xC7#8 ∨ v[1] ≠ 0x2E#8 then .error .signature
  else if v[2] ≠ 0x01#8 then .error .version
  else if recordInRange v = false then .error .range
  else if recordSum v ≠ 0 then .error .check
  else .ok (recordFields v)

/-! ## Host arguments and codes (R190, R191) -/

/-- R190: the event set two argument bytes hold, if no bit names no event. -/
def eventSetOf (hi lo : Byte) : Option (BitVec 9) :=
  if (half hi lo).toNat < 512 then some ((half hi lo).setWidth 9) else none

/-- R190: an event set as a 16-bit value. -/
def eventBytes (e : BitVec 9) : List Byte := halfBytes (e.setWidth 16)

/-- R190: a status code. -/
def Status.byte : Status → Byte
  | .ok => 0x00#8
  | .empty => 0x01#8
  | .poolEmpty => 0x02#8
  | .busy => 0x03#8
  | .quota => 0x04#8
  | .notOwner => 0x05#8
  | .notVacant => 0x06#8
  | .notActive => 0x07#8
  | .state => 0x08#8
  | .badArg => 0x09#8
  | .badRequest => 0x0A#8
  | .starting => 0x0B#8

/-- R191: the code of a sync state. -/
def SyncState.byte : SyncState → Byte
  | .start => 0x00#8
  | .offline => 0x01#8
  | .listening => 0x02#8
  | .learning => 0x03#8
  | .joining => 0x04#8
  | .active => 0x05#8
  | .relearn => 0x06#8
  | .withdrawn => 0x07#8

/-- R191: the code of a cycle condition. -/
def CycleCond.byte : CycleCond → Byte
  | .none => 0x00#8
  | .running => 0x01#8
  | .flywheel => 0x02#8
  | .suspended => 0x03#8

/-- R191: the code of a departure reason. -/
def DepartReason.byte : DepartReason → Byte
  | .timeout => 0x00#8
  | .left => 0x01#8
  | .restarted => 0x02#8
  | .marker => 0x03#8

/-- R191: the code of a claim outcome. -/
def ClaimOutcome.byte : ClaimOutcome → Byte
  | .granted => 0x00#8
  | .partly => 0x01#8
  | .refused => 0x02#8
  | .aborted => 0x03#8

/-- R191: the code of a release outcome. -/
def ReleaseOutcome.byte : ReleaseOutcome → Byte
  | .applied => 0x00#8
  | .aborted => 0x01#8

/-- R191: the code of a completion status. -/
def DoneStatus.byte : DoneStatus → Byte
  | .delivered => 0x00#8
  | .sent => 0x01#8
  | .collided => 0x02#8
  | .unconfirmed => 0x03#8
  | .noDestination => 0x04#8
  | .destLeft => 0x05#8
  | .flushed => 0x06#8

/-- R191: the code of a severity; also its order (R148). -/
def Severity.rank : Severity → Nat
  | .none => 0
  | .advisory => 1
  | .degraded => 2
  | .fatal => 3

/-- R191: the code of a fault kind. -/
def FaultKind.code : FaultKind → Fin 19
  | .configDefaulted => 0
  | .markerLost => 1
  | .rollCheck => 2
  | .unexpectedRoll => 3
  | .frameCheck => 4
  | .foreignFrame => 5
  | .sequenceGap => 6
  | .staleAck => 7
  | .rxOverflow => 8
  | .deliveryFailed => 9
  | .txCollision => 10
  | .hostProtocol => 11
  | .diverged => 12
  | .scheduleConflict => 13
  | .displaced => 14
  | .addressConflict => 15
  | .addressInUse => 16
  | .scheduleUnstable => 17
  | .lineFault => 18

/-- R191: the code of a configuration source. -/
def ConfigSource.byte : ConfigSource → Byte
  | .record => 0x00#8
  | .defaultsByStrap => 0x01#8
  | .defaultsByFailure => 0x02#8

/-- R191: the code of a failure reason. -/
def FailReason.byte : FailReason → Byte
  | .noResponse => 0x00#8
  | .busFault => 0x01#8
  | .signature => 0x02#8
  | .version => 0x03#8
  | .range => 0x04#8
  | .check => 0x05#8

end Sys2Proof.Machine
end

