-- ==== Sys2Proof/Machine/Flags.lean ====
section
/-!
DEFINITION. Flags: the event set and ATTN_N (R180, R182), the levels of the other output pins, and the fault record
with its mask (R148 to R153).
-/

namespace Sys2Proof.Machine

/-! ## Events and pins -/

/-- R190: the bit of an event. -/
def Event.index : Event → Fin 9
  | .rxReady => 0
  | .doneReady => 1
  | .claimEnd => 2
  | .releaseEnd => 3
  | .membership => 4
  | .syncState => 5
  | .holder => 6
  | .fault => 7
  | .patternApplied => 8

/-- R190: the event set that holds one event. -/
def Event.bit (e : Event) : BitVec 9 := 1#9 <<< e.index.val

/-- R180: the event is set pending; it stays pending, once, if it is so already. -/
def post (e : Event) (s : State) : State := s.withHp { s.hp with events := s.hp.events ||| e.bit }

/-- R180: the event is pending. -/
def State.isPending (s : State) (e : Event) : Bool := s.hp.events.getLsbD e.index.val

/-- R182: ATTN_N is pulled low while an event is both pending and enabled. -/
def State.attnLow (s : State) : Bool := s.hp.events &&& s.hp.enables != 0#9

/-- R170, R171, R176: SDO is high-impedance while CS_N is high, in IDLE and while a reset lasts. -/
def State.sdoHighZ (s : State) : Bool := !s.hp.csLow || s.hp.tx == .idle || s.cfg.step == .held

/-- R171, R190: the bytes of a reply as they are shifted out: the status code, the reply length, the data. -/
def Reply.bytes (r : Reply) : List Byte := [r.status.byte, byteOf r.data.length] ++ r.data

/-- R171: the byte that the part shifts out next: none while SDO is high-impedance, 00h outside REPLY. -/
def State.sdoByte (s : State) : Option Byte :=
  if s.sdoHighZ then none
  else match s.hp.tx, s.hp.reply with
    | .reply, some r => some (at' r.bytes r.shifted)
    | _, _ => some 0x00#8

/-- R170: the bit that SDO carries in the current clock of SCK: of the byte that is shifted out, most significant bit
first, the one that stands where SDI's stands in the byte in progress. -/
def State.sdoBit (s : State) : Option Bool := s.sdoByte.bind fun b => (byteBits b)[s.hp.bits.length]?

/-- R2: what a transmission sends: the preamble AAh, the start delimiter B3h, and the frame from its kind field through its
check. -/
def TxRecord.lineBytes (x : TxRecord) : List Byte := [0xAA#8, 0xB3#8] ++ x.bytes

/-- R2: bytes as bits, each most significant bit first. -/
def lineBits (b : List Byte) : List Bool := b.flatMap byteBits

/-- R1, R2: what the driver sends in bit time `t` of the slot: nothing before bit time 8 and after the last bit of the
check; true is a rise of LINE_P against LINE_N at the middle of the bit time, false a fall. -/
def TxRecord.drivenBit (x : TxRecord) (t : Nat) : Option Bool :=
  if t < Config.driveOffset then none else (lineBits x.lineBytes)[t - Config.driveOffset]?

/-- R2, R12: what the station drives onto the line in bit time `t` of the slot its transmission record is for. -/
def State.drivenBit (s : State) (t : Nat) : Option Bool := s.lif.tx.bind fun x => x.drivenBit t

/-- R2, R13: the line driver is active in bit time `t` of that slot. -/
def State.driving (s : State) (t : Nat) : Bool := (s.drivenBit t).isSome

/-! ## Faults -/

/-- R148: the severity of a kind. -/
def FaultKind.severity (k : FaultKind) : Severity :=
  if k.code.val < 12 then .advisory else if k.code.val < 15 then .degraded else .fatal

/-- R149: the kind is masked; FATAL kinds have no mask flag. -/
def masked (mask : BitVec 15) (k : FaultKind) : Bool := mask.getLsbD k.code.val

/-- R150: a count saturates at 255. -/
def countUp (n : Nat) : Nat := if n < 255 then n + 1 else n

/-- R152: the higher of two severities. -/
def Severity.max (a b : Severity) : Severity := if a.rank < b.rank then b else a

/-- R150 steps 1 and 2, without the event: the record after one recording. -/
def Fru.record (f : Fru) (k : FaultKind) (cycle : Option Half) (state : SyncState) (ctx : FaultCtx) : Fru :=
  let g : Fru := { f with seen := f.seen.set k.code true, counts := f.counts.set k.code (countUp f.counts[k.code]) }
  if masked f.mask k then g
  else { g with
    first := match f.first with
      | none => some { kind := k, cycle := cycle, state := state, ctx := ctx }
      | some r => some r
    highest := f.highest.max k.severity }

/-- R150 steps 1 and 2, R153: one recording, with the cycle number and sync state at its instant. What a DEGRADED or
FATAL kind asks of SYNC (step 3) stands with the report. -/
def recordFault (k : FaultKind) (ctx : FaultCtx) (s : State) : State :=
  let s' := s.withFru (s.fru.record k s.sync.cycleNumber s.sync.state ctx)
  if masked s.fru.mask k then s' else post .fault s'

/-- R38: the DEGRADED flag of the own roll word: an unmasked DEGRADED kind has its seen flag set. -/
def degradedFlag (f : Fru) : Bool :=
  [FaultKind.diverged, .scheduleConflict, .displaced].any fun k => f.seen[k.code] && !masked f.mask k

end Sys2Proof.Machine
end

