-- ==== Sys2Proof/Machine/Ops.lean ====
section
/-!
DEFINITION. The operations the commands share, block by block: table and digest (PTU), departures (RCM, DLT, TXE,
RXE), completions (DLT), claim and release aborts (CRU), suspension, timing and the start marker (SYNC), the
transitions of the sync state in the order of R79, and withdrawal (R95).
-/

namespace Sys2Proof.Machine

/-! ## Own address and timing -/

/-- R161: the own address. -/
def State.own (s : State) : Addr := s.cfg.straps.addr

/-- R14, R77: the states in which SYNC produces cycle events while the cycle runs. -/
def SyncState.timed : SyncState → Bool
  | .learning => true
  | .joining => true
  | .active => true
  | .relearn => true
  | .start => false
  | .offline => false
  | .listening => false
  | .withdrawn => false

/-- R8, R14: the station has slot timing: SYNC produces cycle events for it. -/
def State.slotTiming (s : State) : Bool :=
  s.sync.state.timed && (s.sync.cond == .running || s.sync.cond == .flywheel)

/-- R17, R156: the states in which a FATAL kind takes the station to WITHDRAWN. -/
def SyncState.onLine : SyncState → Bool
  | .listening => true
  | .learning => true
  | .joining => true
  | .active => true
  | .relearn => true
  | .start => false
  | .offline => false
  | .withdrawn => false

/-- The current cycle number, where the spec has one (log entry 19). -/
def State.cycle (s : State) : Half := s.sync.cycleNumber.getD 0#16

/-- R85, R88: the number of the next cycle, from 65535 to 0. -/
def nextNumber (n : Option Half) : Option Half := n.map (· + 1#16)

/-- R79: the sync state is entered, with SYNC_STATE pending. -/
def enter (st : SyncState) (s : State) : State := post .syncState (s.withSync { s.sync with state := st })

/-! ## PTU -/

/-- R22: the digest of a table. -/
def tableDigest (t : Vector Entry 96) : Half := crc16 (t.toList.map Entry.byte)

/-- R19: no entry is UNKNOWN. -/
def fullyKnown (t : Vector Entry 96) : Bool := !t.toList.contains .unknown

/-- R22, R73: the digest stage: computed over a fully known table, else not valid. -/
def digestOf (t : Vector Entry 96) : Option Half := if fullyKnown t then some (tableDigest t) else none

/-- R21: the entries OWNED by an address. -/
def ownedCount (t : Vector Entry 96) (a : Addr) : Nat := t.toList.count (.owned a)

/-- R20: the owner of an entry. -/
def Entry.owner : Entry → Option Addr
  | .owned a => some a
  | .vacant => none
  | .cooling1 => none
  | .cooling2 => none
  | .unknown => none

/-- R22: the digest's value as the PTU reports it: FFFFh while it is not valid. -/
def Ptu.digestValue (p : Ptu) : Half := p.digest.getD 0xFFFF#16

/-- R26, R34: all entries UNKNOWN, the set empty, the digest not valid; the learn-attempt count is left. -/
def Ptu.forget (p : Ptu) : Ptu :=
  { p with table := Vector.replicate 96 .unknown, digest := none, known := Vector.replicate 8 false }

/-- R26: the PTU forgets the table and learning begins, or there is no table (R34). -/
def forgetTable (s : State) : State := s.withPtu s.ptu.forget

/-- R33: the table of a founder: all VACANT, all segments known, the digest valid. -/
def Ptu.found (p : Ptu) : Ptu :=
  { p with table := Vector.replicate 96 .vacant, digest := some (tableDigest (Vector.replicate 96 .vacant)),
           known := Vector.replicate 8 true }

/-- R29: the segments-known set is full. -/
def Ptu.full (p : Ptu) : Bool := p.known.toList.all id

/-- R24: the segment an entry lies in. -/
def segmentOf (k : Phase) : Fin 8 := ⟨k.val / 12, by omega⟩

/-- R24: the segment a cycle number carries. -/
def segmentOfCycle (n : Half) : Fin 8 := ⟨n.toNat % 8, by omega⟩

/-- R24: the entry bytes of segment `g`. -/
def segmentBytes (t : Vector Entry 96) (g : Fin 8) : Vector Byte 12 :=
  tab fun i => (t[12 * g.val + i.val]'(by omega)).byte

/-- R51: every entry OWNED by `a` becomes COOLING(2). -/
def coolOwner (a : Addr) (t : Vector Entry 96) : Vector Entry 96 :=
  tab fun k => if t[k] = .owned a then .cooling2 else t[k]

/-- R27: the entries of a segment's bytes, if every byte is an encoding of VACANT, OWNED or COOLING. -/
def segmentEntries (b : Vector Byte 12) : Option (Vector Entry 12) :=
  if b.toList.all (fun x => (segmentEntry x).isSome) then some (tab fun i => (segmentEntry b[i]).getD .unknown) else none

/-- R27: a segment is written into the table and joins the set; a set that is then full has its digest computed. -/
def Ptu.writeSegment (p : Ptu) (g : Fin 8) (es : Vector Entry 12) : Ptu :=
  let t : Vector Entry 96 := tab fun k => if segmentOf k = g then es[k.val % 12]'(by omega) else p.table[k]
  let q : Ptu := { p with table := t, known := p.known.set g true }
  if q.full then { q with digest := some (tableDigest t) } else q

/-! ## Completions (DLT, TXE) -/

/-- R142, R144: a buffer becomes DONE at the tail of the completion list; DONE_READY if the list was empty. -/
def complete (st : DoneStatus) (f : TxFrame) (s : State) : State :=
  let s' := s.withDlt { s.dlt with done := s.dlt.done ++ [{ frame := f, status := st, cycle := s.sync.cycleNumber }] }
  if s.dlt.done.isEmpty then post .doneReady s' else s'

/-- R97: the queue of a class. -/
def Txe.queue (t : Txe) : Cls → List TxFrame
  | .c0 => t.q0
  | .c1 => t.q1
  | .c2 => t.q2
  | .c3 => t.q3

/-- R97: the queue of a class replaced. -/
def Txe.setQueue (t : Txe) (c : Cls) (q : List TxFrame) : Txe :=
  match c with
  | .c0 => { t with q0 := q }
  | .c1 => { t with q1 := q }
  | .c2 => { t with q2 := q }
  | .c3 => { t with q3 := q }

/-- R97: the number of QUEUED buffers. -/
def Txe.queued (t : Txe) : Nat := t.q0.length + t.q1.length + t.q2.length + t.q3.length

/-- R115: the waiting frames in the order of the flush: class 0 to 3, then the retry list. -/
def waitingFrames (s : State) : List TxFrame :=
  s.txe.q0 ++ s.txe.q1 ++ s.txe.q2 ++ s.txe.q3 ++ s.dlt.retry.map RetryEntry.frame

/-- R115, R145: every waiting frame completes FLUSHED, in order. -/
def flush (s : State) : State :=
  let s' := (s.withTxe { s.txe with q0 := [], q1 := [], q2 := [], q3 := [] }).withDlt { s.dlt with retry := [] }
  (waitingFrames s).foldl (fun t f => complete .flushed f t) s'

/-- R131: the entry is for destination `a`. -/
def RetryEntry.isFor (a : Addr) (e : RetryEntry) : Bool := e.frame.dest == .unicast a

/-- R132: the first entry for destination `a` leaves the list and its frame completes with this status. -/
def finishEntry (a : Addr) (st : DoneStatus) (s : State) : State :=
  match s.dlt.retry.find? (RetryEntry.isFor a) with
  | none => s
  | some e => complete st e.frame (s.withDlt { s.dlt with retry := s.dlt.retry.eraseP (RetryEntry.isFor a) })

/-- R140: every retry entry is closed; a DUE one becomes WAITING and drops its due-order. -/
def closeEntries (s : State) : State :=
  s.withDlt { s.dlt with retry := s.dlt.retry.map fun e => { e with closed := true, due := none } }

/-! ## CRU -/

/-- R55: the claim ends: outcome and granted list kept, register IDLE, CLAIM_END. -/
def endClaim (o : ClaimOutcome) (c : Claim) (s : State) : State :=
  post .claimEnd (s.withCru { s.cru with claim := none, lastClaim := some (o, c.granted) })

/-- R62: a PENDING claim is aborted. -/
def abortClaim (s : State) : State :=
  match s.cru.claim with
  | none => s
  | some c => endClaim .aborted c s

/-- R66: the release list, the flag and the carried record are emptied; ABORTED and RELEASE_END if anything was held. -/
def abortReleases (s : State) : State :=
  let held := !s.cru.releases.isEmpty || s.cru.releaseAll
  let cru : Cru := { s.cru with releases := [], releaseAll := false, carried := none }
  if held then post .releaseEnd (s.withCru { cru with lastRelease := some .aborted }) else s.withCru cru

/-! ## RCM: presence -/

/-- The address is in the presence map. -/
def Rcm.present (r : Rcm) (a : Addr) : Bool := r.presence[a].isSome

/-- R46, R54: no address present, the configured limit, nothing heard; the arrival and departure records are kept. -/
def Rcm.clear (r : Rcm) (limit : Nat) : Rcm :=
  { presence := Vector.replicate 32 none, absenceLimit := limit, degraded := Vector.replicate 32 false,
    ownCollisions := 0, record := Vector.replicate 32 none, tally := 0, disagreeing := 0,
    lastArrival := r.lastArrival, lastDeparture := r.lastDeparture }

/-- R54: RCM forgets who is present. -/
def clearPresence (s : State) : State := s.withRcm (s.rcm.clear s.cfg.config.absenceLimit)

/-- R44, R45: the roll-call record is emptied and the tally set to 0. -/
def emptyRecord (s : State) : State :=
  s.withRcm { s.rcm with record := Vector.replicate 32 none, tally := 0 }

/-- R114, R122, R129, R139: DLT, TXE and RXE are told that `a` has departed. -/
def tellDeparted (a : Addr) (s : State) : State :=
  let s1 := finishEntry a .destLeft s
  let s2 := s1.withTxe { s1.txe with nextSeq := s1.txe.nextSeq.set a 0#8 }
  s2.withRxe { s2.rxe with lastAcc := s2.rxe.lastAcc.set a none, acks := s2.rxe.acks.filter (fun p => p.1 ≠ a) }

/-- R51 step 1. -/
def removePresent (a : Addr) (s : State) : State :=
  s.withRcm { s.rcm with presence := s.rcm.presence.set a none, degraded := s.rcm.degraded.set a false }

/-- R51 step 5. -/
def noteDeparture (a : Addr) (why : DepartReason) (s : State) : State :=
  post .membership
    (s.withRcm { s.rcm with lastDeparture := some { addr := a, reason := why, cycle := s.cycle } })

/-- R51: a departure decided at a close. Step 4 is not run for the own address. -/
def departAtClose (a : Addr) (why : DepartReason) (s : State) : State :=
  let s1 := removePresent a s
  let s2 := s1.withPtu { s1.ptu with table := coolOwner a s1.ptu.table }
  let s3 := tellDeparted a s2
  let s4 := if a ≠ s3.own ∧ s3.sync.holderAddr = some a then s3.withSync { s3.sync with holderVacant := true } else s3
  noteDeparture a why s4

/-- R51: a departure decided at presence adoption: no entry is cooled and SYNC is not told. -/
def departAtMarker (a : Addr) (s : State) : State :=
  noteDeparture a .marker (tellDeparted a (removePresent a s))

/-- R52: an arrival, with its degraded flag. -/
def arrive (a : Addr) (degraded : Bool) (s : State) : State :=
  post .membership
    (s.withRcm { s.rcm with presence := s.rcm.presence.set a (some 0), degraded := s.rcm.degraded.set a degraded,
                            lastArrival := some { addr := a, cycle := s.cycle } })

/-! ## RXE -/

/-- R122, R129: every last-accepted record FRESH, the ack list emptied. -/
def freshSources (s : State) : State :=
  s.withRxe { s.rxe with lastAcc := Vector.replicate 32 none, acks := [] }

/-! ## LIF -/

/-- R12: the transmission in progress is cut off and its record discarded. -/
def cutTransmission (s : State) : State := s.withLif { s.lif with tx := none }

/-- R2, R11: a frame is handed to LIF, which keeps it on record until its read-back. -/
def transmit (f : SentFrame) (b : List Byte) (s : State) : State :=
  s.withLif { s.lif with tx := some { frame := f, bytes := b } }

/-- R5: roll slot `k` has had its one reception. -/
def rollHad (k : Addr) (s : State) : State := s.withLif { s.lif with rollDone := s.lif.rollDone.set k true }

/-- R5: data phase `k` has had its one reception. -/
def phaseHad (k : Phase) (s : State) : State := s.withLif { s.lif with phaseDone := s.lif.phaseDone.set k true }

/-- R5, R14: a cycle begins, none of whose roll slots and data phases has had a reception. -/
def freshSlots (s : State) : State :=
  s.withLif { s.lif with rollDone := Vector.replicate 32 false, phaseDone := Vector.replicate 96 false }

/-- R5: the reception of a slot has ended, and nothing of it is in progress. -/
def endReception (s : State) : State := s.withLif { s.lif with rx := none }

/-- R5, R10, R13: what LIF does with the bytes a reception brings: a reception that has ended is taken whole; one that
begins is in progress, in the states in which the receiver runs; the rest of one that was abandoned is none. -/
def hear (part : Part) (bytes : List Byte) (running : Bool) (take : List Byte → State → State) (s : State) : State :=
  match part with
  | .whole => take bytes s
  | .begins => if running then s.withLif { s.lif with rx := some bytes } else s
  | .ends =>
    match s.lif.rx with
    | none => s
    | some first => take (first ++ bytes) (endReception s)

/-- R11: the read-back result: intact when the bytes received equal the bytes sent. -/
def readBackIntact (sent : List Byte) : Reception → Bool
  | .nothing => false
  | .damaged => false
  | .bytes b => b == sent

/-! ## Cycle mark (R112) -/

/-- R112: the cycle mark is folded into the conflict count and set to NONE. -/
def foldMark (s : State) : State :=
  s.withTxe { s.txe with
    mark := .none
    conflict := match s.txe.mark with
      | .failed => s.txe.conflict + 1
      | .clean => 0
      | .none => s.txe.conflict }

/-! ## Leaving ACTIVE (R79 steps 1 and 2) -/

/-- R84: the holder flag is cleared, with HOLDER pending, if it was set. -/
def dropHolder (s : State) : State :=
  if s.sync.holder then post .holder (s.withSync { s.sync with holder := false }) else s

/-- R79, R112: on leaving ACTIVE the holder flag is cleared, claim and releases are aborted, and the conflict count
and the cycle mark are set to 0 and NONE. In any other state nothing changes. -/
def leaveActive (s : State) : State :=
  if s.sync.state = .active then
    let s1 := abortReleases (abortClaim (dropHolder s))
    s1.withTxe { s1.txe with conflict := 0, mark := .none }
  else s

/-! ## WITHDRAWN and LISTENING -/

/-- R95, R96: SYNC stops cycle timing on entry to WITHDRAWN. -/
def Sync.stop (y : Sync) : Sync :=
  { y with cond := .none, holder := false, holderAddr := none, holderVacant := false, cycleNumber := none, lost := 0,
           takeoverTimer := .stopped, listenTimer := .stopped, withdrawPending := false, markerDone := false,
           leaveSent := false, cycleShift := 0, left := none }

/-- R88, R157: what the station leaves at this instant, if it now enters WITHDRAWN. -/
def leftNow (s : State) : Left :=
  { state := s.sync.state
    timing := s.slotTiming
    markerMissing := s.slotTiming && !s.sync.holder && !s.sync.markerDone
    drove := match s.lif.tx with
      | some { frame := .data k _, bytes := _ } => some k
      | _ => none
    faultTimer := s.lif.lineFaultTimer != .stopped }

/-- R13, R79, R95: entry to WITHDRAWN, from any state. -/
def withdrawNow (s : State) : State :=
  let s1 := leaveActive s
  let s2 := (s1.withLif Lif.reset).withSync { s1.sync.stop with left := some (leftNow s) }
  let s3 := flush s2
  let s4 := s3.withTxe { s3.txe with nextSeq := Vector.replicate 32 0#8, conflict := 0, mark := .none }
  enter .withdrawn (clearPresence (forgetTable (freshSources s4)))

/-- R156: a FATAL kind is recorded and takes a station on the line to WITHDRAWN. -/
def fatal (k : FaultKind) (ctx : FaultCtx) (s : State) : State :=
  let s' := recordFault k ctx s
  if s.sync.state.onLine then withdrawNow s' else s'

/-- R31, R34, R54, R96, R122, R129: entry to LISTENING, with the listen timer started at 0. -/
def enterListening (s : State) : State :=
  let s1 := forgetTable s
  let s2 := s1.withPtu { s1.ptu with learnAttempts := 0 }
  let s3 := freshSources (clearPresence s2)
  enter .listening (s3.withSync { s3.sync.stop with listenTimer := .running 0 })

/-- R13, R17, R93: the host's JOIN, or auto-join: LISTENING, with the line-fault timer started at 0. -/
def joinLine (s : State) : State :=
  enterListening (s.withLif { s.lif with lineFaultTimer := .running 0 })

/-- R157: the station left, if this command is of the instant at which the station entered WITHDRAWN. -/
def State.atWithdrawal (s : State) (together : Bool) : Option Left :=
  if together ∧ s.sync.state = .withdrawn then s.sync.left else none

/-! ## Suspension (R90) -/

/-- R12, R32, R54, R90: the cycle is suspended and one timer starts, chosen by the state. -/
def suspend (s : State) : State :=
  let s1 := emptyRecord (cutTransmission s)
  let s2 := if s1.sync.state = .learning ∨ s1.sync.state = .relearn then forgetTable s1 else s1
  if s2.sync.state = .active then
    s2.withSync { s2.sync with cond := .suspended, takeoverTimer := .running (Config.takeoverDelay s2.own) }
  else s2.withSync { s2.sync with cond := .suspended, listenTimer := .running 0 }

/-! ## RELEARN (R82, R112) and displacement (R83) -/

/-- R82, R84, R112: ACTIVE to RELEARN. A holder's lost count starts again at 0. -/
def toRelearn (s : State) : State :=
  let wasHolder := s.sync.holder
  let s1 := forgetTable (leaveActive s)
  enter .relearn (if wasHolder then s1.withSync { s1.sync with lost := 0 } else s1)

/-- R155: a DEGRADED kind that takes an ACTIVE station to RELEARN. -/
def degradeToRelearn (k : FaultKind) (ctx : FaultCtx) (s : State) : State :=
  let s' := recordFault k ctx s
  if s.sync.state = .active then toRelearn s' else s'

/-- R40, R122, R129, R140: what displacement does in RCM, RXE and DLT. -/
def forgetPeers (s : State) : State :=
  let s1 := closeEntries (freshSources s)
  s1.withRcm { s1.rcm with ownCollisions := 0 }

/-- R83: the test for displacement after adoption, in ACTIVE or RELEARN. -/
def displacementTest (s : State) : State :=
  if (s.sync.state = .active ∨ s.sync.state = .relearn) ∧ s.rcm.present s.own = false then
    let s1 := recordFault .displaced .none s
    if s.sync.withdrawPending then withdrawNow s1
    else if s.sync.state = .active then enter .joining (forgetPeers (leaveActive s1))
    else enter .learning (forgetTable (forgetPeers s1))
  else s

/-! ## Aging (R133 to R135, R140) -/

/-- R135, R140: the entry's frame completes UNCONFIRMED and DELIVERY_FAILED is recorded. -/
def giveUp (f : TxFrame) (s : State) : State :=
  recordFault .deliveryFailed (.frame (finByte s.own) f.dest.byte f.cls.byte (f.seq.getD 0#8))
    (complete .unconfirmed f s)

/-- An entry stays in the retry list, behind those already kept. -/
def keepEntry (e : RetryEntry) (s : State) : State := s.withDlt { s.dlt with retry := s.dlt.retry ++ [e] }

/-- R133 to R135: the aging of one entry. -/
def ageEntry (s : State) (e : RetryEntry) : State :=
  if e.closed then giveUp e.frame s
  else if e.due.isSome then keepEntry e s
  else if e.age + 1 = s.cfg.config.retryTimeout then
    if e.frame.attempts < 1 + s.cfg.config.retryLimit then
      let s1 := keepEntry { e with age := e.age + 1, due := some s.dlt.dueCounter } s
      s1.withDlt { s1.dlt with dueCounter := s1.dlt.dueCounter + 1#8 }
    else giveUp e.frame s
  else keepEntry { e with age := e.age + 1 } s

/-- R133: the aging of the retry list, oldest entry first. -/
def ageRetryList (s : State) : State := s.dlt.retry.foldl ageEntry (s.withDlt { s.dlt with retry := [] })

/-! ## Cycle start and start marker -/

/-- R103: a pending pattern is put in force. -/
def applyStaged (s : State) : State :=
  if s.txe.applyPending then
    post .patternApplied (s.withTxe { s.txe with pattern := s.txe.staged, pointer := 0, applyPending := false })
  else s

/-- R14, R44, R45, R103, R133: the work of a cycle start event, at whatever event it is produced. -/
def produceCycleStart (s : State) : State :=
  let s1 := emptyRecord (freshSlots s)
  let s2 := s1.withSync { s1.sync with markerDone := false, leaveSent := false, cycleShift := 0 }
  applyStaged (if s2.sync.state = .active then ageRetryList s2 else s2)

/-- R85: the start marker of the current cycle. -/
def ownMarker (s : State) : Marker :=
  { number := s.cycle, holder := s.own, limit := s.cfg.config.absenceLimit, presence := s.rcm.presence,
    digest := s.ptu.digestValue, segment := segmentBytes s.ptu.table (segmentOfCycle s.cycle) }

/-- R85: the holder drives its start marker. -/
def sendMarker (s : State) : State := transmit .marker (ownMarker s).bytes s

/-! ## Markers taken (R81) -/

/-- R15, R81 step 1: the cycle start placed from a marker in the window, or timing restarted from the marker, with
the cycle start it produces. A cycle cut short has its mark folded (R112). -/
def markerTiming (m : Marker) (offset : Int) (restart : Bool) (s : State) : State :=
  let s0 := if restart then foldMark s else s
  let s1 := s0.withSync { s0.sync with
    cycleNumber := some m.number, holderAddr := some m.holder, lost := 0, holderVacant := false,
    takeoverTimer := .stopped, listenTimer := .stopped, cond := .running }
  let s2 := if restart then produceCycleStart (cutTransmission s1) else s1
  s2.withSync { s2.sync with markerDone := true, cycleShift := if restart then 0 else offset }

/-- R81 step 2: a LISTENING station begins to learn. -/
def markerLearn (s : State) : State :=
  if s.sync.state = .listening then enter .learning (forgetTable s) else s

/-- R29: the learning comparison succeeds. -/
def learningSuccess (s : State) : State :=
  enter (if s.sync.state = .learning then .joining else .active) (s.withPtu { s.ptu with learnAttempts := 0 })

/-- R30: the learning comparison fails. -/
def learningFailure (s : State) : State :=
  let s1 := s.withPtu { s.ptu with learnAttempts := s.ptu.learnAttempts + 1 }
  if s1.ptu.learnAttempts < Config.learnLimit then forgetTable s1 else fatal .scheduleUnstable .none s1

/-- R81 step 3: the digest comparison (R29, R30, R82). -/
def markerCompare (m : Marker) (s : State) : State :=
  if s.sync.state = .active then
    if s.ptu.digestValue = m.digest then s else degradeToRelearn .diverged .none s
  else if (s.sync.state = .learning ∨ s.sync.state = .relearn) ∧ s.ptu.full = true then
    if s.ptu.digestValue = m.digest then learningSuccess s else learningFailure s
  else s

/-- R47: what adoption does for one address other than the own. -/
def adoptAddress (m : Marker) (s : State) (a : Addr) : State :=
  if a = s.own then s
  else if s.rcm.present a ∧ m.presence[a] = none then departAtMarker a s
  else if s.rcm.present a = false ∧ m.presence[a] ≠ none then arrive a s.rcm.degraded[a] s
  else s

/-- R81 step 4: presence adoption (R47): MARKER departures and arrivals, then the marker's map, counts and limit; the
degraded flags of absent addresses are cleared. The order of the decisions is the spec's for a close (R49, R51) and left
open for an adoption: ascending here too, DESIGN CHOICE (log entry 29). -/
def adoptPresence (m : Marker) (s : State) : State :=
  let s1 := (List.finRange 32).foldl (adoptAddress m) s
  s1.withRcm { s1.rcm with
    presence := m.presence, absenceLimit := m.limit,
    degraded := tab fun a => s1.rcm.degraded[a] && m.presence[a].isSome }

/-- R81 step 6: the marker's segment, in LEARNING or RELEARN (R27). -/
def markerSegment (m : Marker) (s : State) : State :=
  if s.sync.state = .learning ∨ s.sync.state = .relearn then
    match segmentEntries m.segment with
    | none => s
    | some es => s.withPtu (s.ptu.writeSegment (segmentOfCycle m.number) es)
  else s

/-- R81: a marker is taken, step by step. At the marker that takes a station from LISTENING to LEARNING, or displaces it,
R54 has the last arrival and departure records kept, while R47, R51 and R52 have the marker's adoption write them, with
MEMBERSHIP: here the adoption writes them and the change of state leaves them alone, DESIGN CHOICE (log entry 37). -/
def takeMarker (m : Marker) (offset : Int) (restart : Bool) (s : State) : State :=
  let s3 := markerCompare m (markerLearn (markerTiming m offset restart s))
  if s3.sync.state = .withdrawn then s3 else markerSegment m (displacementTest (adoptPresence m s3))

/-! ## Acknowledgements (R137) -/

/-- R137: an ack from station `x` for sequence `q`. -/
def takeAck (x : Addr) (s : State) (q : Byte) : State :=
  match s.dlt.retry.find? (RetryEntry.isFor x) with
  | none => recordFault .staleAck (.sender x) s
  | some e => if e.frame.seq = some q then finishEntry x .delivered s else recordFault .staleAck (.sender x) s

end Sys2Proof.Machine
end

