-- ==== Sys2Proof/Machine/Close.lean ====
section
/-!
DEFINITION. The roll-call close (R67 to R75): six stages over the roll-call record and the table as the close found it.
-/

namespace Sys2Proof.Machine

/-! ## Stage 1: membership (R69) -/

/-- R49: the decision for address `a`, other than the own. -/
def decidePeer (a : Addr) (s : State) : State :=
  match s.rcm.presence[a], s.rcm.record[a] with
  | some n, none =>
    if s.rcm.absenceLimit ≤ n + 1 then departAtClose a .timeout s
    else s.withRcm { s.rcm with presence := s.rcm.presence.set a (some (n + 1)) }
  | some _, some w =>
    if w.leave then departAtClose a .left s
    else if w.join then arrive a w.degraded (departAtClose a .restarted s)
    else s.withRcm { s.rcm with presence := s.rcm.presence.set a (some 0) }
  | none, some w => if w.join then arrive a w.degraded s else s
  | none, none => s

/-- R50: the decision for the own address, from the own roll word in the record. -/
def decideOwn (s : State) : State :=
  match s.rcm.record[s.own] with
  | none => s
  | some w =>
    if s.sync.state = .joining then
      if w.join then
        arrive s.own w.degraded (if s.rcm.present s.own then departAtClose s.own .restarted s else s)
      else s
    else if s.rcm.present s.own then s.withRcm { s.rcm with presence := s.rcm.presence.set s.own (some 0) }
    else s

/-- R49, R50: the decision for one address. -/
def decideMember (s : State) (a : Addr) : State := if a = s.own then decideOwn s else decidePeer a s

/-- R53: the degraded flag of each present address with an accepted roll word follows the roll word. -/
def updateDegraded (r : Rcm) : Rcm :=
  { r with degraded := tab fun a =>
      match r.record[a] with
      | none => r.degraded[a]
      | some w => if r.present a then w.degraded else r.degraded[a] }

/-- R44, R69: the tally becomes the disagreeing peers; then the decisions, in ascending order, and the degraded map. -/
def membershipStage (s : State) : State :=
  let s1 := s.withRcm { s.rcm with disagreeing := s.rcm.tally, tally := 0 }
  let s2 := (List.finRange 32).foldl decideMember s1
  s2.withRcm (updateDegraded s2.rcm)

/-! ## Stages 2 to 4: the table (R70 to R72) -/

/-- The roll word of a sender that is present after stage 1. -/
def presentWord (r : Rcm) (a : Addr) : Option RollWord := if r.present a then r.record[a] else none

/-- R70: the roll word gives up the phase. -/
def RollWord.releasesPhase (w : RollWord) (k : Phase) : Bool := w.releaseAll || w.releases.contains (finByte k)

/-- R71: the roll word claims the phase. -/
def RollWord.claimsPhase (w : RollWord) (k : Phase) : Bool := w.claims.contains (finByte k)

/-- R70: stage 2 on one entry. -/
def releaseEntry (r : Rcm) (k : Phase) (e : Entry) : Entry :=
  match e with
  | .owned a =>
    match presentWord r a with
    | some w => if w.releasesPhase k then .cooling2 else .owned a
    | none => .owned a
  | e => e

/-- R71: the lowest present address that claims the phase. -/
def lowestClaimant (r : Rcm) (k : Phase) : Option Addr :=
  (List.finRange 32).find? fun a =>
    match presentWord r a with
    | some w => w.claimsPhase k
    | none => false

/-- R71: stage 3 on one entry, with what it was when the close began. -/
def claimEntry (r : Rcm) (k : Phase) (began e : Entry) : Entry :=
  if began = .vacant ∧ e = .vacant then
    match lowestClaimant r k with
    | some a => .owned a
    | none => .vacant
  else e

/-- R72: stage 4 on one entry, with what it was when the close began. -/
def coolEntry (began e : Entry) : Entry :=
  match began with
  | .cooling2 => .cooling1
  | .cooling1 => .vacant
  | .vacant => e
  | .owned _ => e
  | .unknown => e

/-- R70: stage 2. -/
def releaseStage (r : Rcm) (t : Vector Entry 96) : Vector Entry 96 := tab fun k => releaseEntry r k t[k]

/-- R71: stage 3. -/
def claimStage (r : Rcm) (began t : Vector Entry 96) : Vector Entry 96 := tab fun k => claimEntry r k began[k] t[k]

/-- R72: stage 4. -/
def coolingStage (began t : Vector Entry 96) : Vector Entry 96 := tab fun k => coolEntry began[k] t[k]

/-- R61: the phases stage 3 granted to `a`, ascending. -/
def grantsTo (a : Addr) (before after : Vector Entry 96) : List Phase :=
  (List.finRange 96).filter fun k => decide (before[k] = .vacant ∧ after[k] = .owned a)

/-! ## Stage 6: own outcomes (R74) -/

/-- R65: the carried releases are applied if the own roll word is in the record; the carried record becomes none. -/
def applyCarried (s : State) : State :=
  let cru := { s.cru with carried := none }
  match s.cru.carried, s.rcm.record[s.own] with
  | some c, some _ =>
    if c.phases.isEmpty && !c.all then s.withCru cru
    else post .releaseEnd (s.withCru { cru with
      releases := s.cru.releases.filter (fun p => p ∉ c.phases),
      releaseAll := s.cru.releaseAll && !c.all, lastRelease := some .applied })
  | _, _ => s.withCru cru

/-- R60: the outcome of a claim after a close, or none while it stays PENDING. -/
def claimOutcome (c : Claim) (own : Addr) (t : Vector Entry 96) : Option ClaimOutcome :=
  match c.kind with
  | .count =>
    if c.requested ≤ c.granted.length then some .granted
    else if c.attempts < Config.claimAttempts then none
    else if c.granted.isEmpty then some .refused
    else some .partly
  | .at p =>
    match t[p].owner with
    | some a => if a = own then some .granted else some .refused
    | none => if c.attempts < Config.claimAttempts then none else some .refused

/-- R60, R61: own grants are appended to the granted list and the claim is evaluated. -/
def evaluateClaim (grants : List Phase) (s : State) : State :=
  match s.cru.claim with
  | none => s
  | some c =>
    let c' := { c with granted := c.granted ++ grants }
    match claimOutcome c' s.own s.ptu.table with
    | some o => endClaim o c' s
    | none => s.withCru { s.cru with claim := some c' }

/-- R50, R74: the own JOIN stands in the record of a JOINING station, so stage 1 decides its arrival. -/
def joinDecided (s : State) : Bool :=
  s.sync.state == .joining && match s.rcm.record[s.own] with
    | none => false
    | some w => w.join

/-- R67 to R74: the close, stage by stage. -/
def close (s : State) : State :=
  let began := s.ptu.table
  let joins := joinDecided s
  let s1 := membershipStage s
  let t2 := releaseStage s1.rcm s1.ptu.table
  let t3 := claimStage s1.rcm began t2
  let t4 := coolingStage began t3
  let s5 := s1.withPtu { s1.ptu with table := t4, digest := digestOf t4 }
  let s6 := evaluateClaim (grantsTo s5.own t2 t3) (applyCarried s5)
  if joins then enter .active s6 else s6

/-- ROLL_CALL_CLOSE (R67): performed by a station in a timed state whose cycle runs. -/
def execRollCallClose (s : State) : Answer := .next (if s.slotTiming then close s else s)

end Sys2Proof.Machine
end

