-- ==== Sys2Proof/Machine/CycleEvents.lean ====
section
/-!
DEFINITION. The cycle events of SYNC (R14): CYCLE_START, OWN_ROLL_SLOT, LEAVE_SLOT_END and DATA_PHASE, with the roll
word the station sends (R35 to R38, R59) and selection in an owned phase (R104 to R108); and the expiry of the listen,
takeover and line-fault timers (R17, R90 to R92).
-/

namespace Sys2Proof.Machine

/-! ## Cycle start -/

/-- CYCLE_START (R14, R85, R89, R112): the finished cycle's mark is folded; with the holder vacant no cycle start is
produced and the cycle is suspended; else the next cycle begins and a holder sends its marker. -/
def execCycleStart (s : State) : Answer :=
  .next (if s.slotTiming then
    let s1 := foldMark s
    if s1.sync.holderVacant then suspend s1
    else
      let s2 := produceCycleStart (s1.withSync { s1.sync with cycleNumber := nextNumber s1.sync.cycleNumber })
      if s2.sync.holder then sendMarker s2 else s2
  else s)

/-! ## Own roll word -/

/-- R59: the candidates of a claim, from the own table. -/
def candidates (c : Claim) (t : Vector Entry 96) : List Phase :=
  match c.kind with
  | .count => ((List.finRange 96).filter fun k => t[k] = .vacant).take (c.requested - c.granted.length)
  | .at p => if t[p] = .vacant then [p] else []

/-- R59: each normal roll word built while the claim is PENDING counts one attempt, up to 4. -/
def countAttempt (c : Claim) : Claim := { c with attempts := min (c.attempts + 1) Config.claimAttempts }

/-- R36: a roll word with no list, of the given kind flags. -/
def plainRollWord (s : State) (join leave relearning : Bool) (digest : Half) : RollWord :=
  { sender := finByte s.own, join := join, leave := leave, releaseAll := false, relearning := relearning,
    degraded := degradedFlag s.fru, digest := digest, claims := [], releases := [], acks := [] }

/-- R36: an ack list entry as the roll word carries it. -/
def ackEntry (p : Addr × Byte) : Byte × Byte := (finByte p.1, p.2)

/-- R37: the oldest acks, at most four, go into the roll word and leave the ack list. -/
def withAcks (w : RollWord) (s : State) : RollWord × State :=
  ({ w with acks := (s.rxe.acks.take 4).map ackEntry }, s.withRxe { s.rxe with acks := s.rxe.acks.drop 4 })

/-- R35, R188: the own roll word is handed to LIF. -/
def sendRoll (p : RollWord × State) : State := transmit (.roll p.1) p.1.bytes p.2

/-- R36, R59, R65: a normal roll word: candidates and one attempt, the release list and flag, which become the carried
record, and the oldest acks. -/
def sendNormal (s : State) : State :=
  let claims := match s.cru.claim with
    | none => []
    | some c => (candidates c s.ptu.table).map finByte
  let w := { plainRollWord s false false false s.ptu.digestValue with
    releaseAll := s.cru.releaseAll, claims := claims, releases := s.cru.releases.map finByte }
  sendRoll (withAcks w (s.withCru { s.cru with
    claim := s.cru.claim.map countAttempt,
    carried := some { phases := s.cru.releases, all := s.cru.releaseAll } }))

/-- R35, R94: a LEAVE; the station enters WITHDRAWN at the end of this roll slot. -/
def sendLeave (s : State) : State :=
  sendRoll (withAcks (plainRollWord s false true false s.ptu.digestValue)
    (s.withSync { s.sync with leaveSent := true }))

/-- OWN_ROLL_SLOT (R35): the kind of roll word by sync state. -/
def execOwnRollSlot (s : State) : Answer :=
  .next (if s.slotTiming then
    match s.sync.state with
    | .joining => sendRoll (plainRollWord s true false false s.ptu.digestValue, s)
    | .active => if s.sync.withdrawPending then sendLeave s else sendNormal s
    | .relearn =>
      if s.sync.withdrawPending then sendLeave s
      else sendRoll (withAcks (plainRollWord s false false true 0xFFFF#16) s)
    | .learning => s
    | .start => s
    | .offline => s
    | .listening => s
    | .withdrawn => s
  else s)

/-- LEAVE_SLOT_END (R94): the end of the own roll slot in which a LEAVE was sent. -/
def execLeaveSlotEnd (s : State) : Answer := .next (if s.sync.leaveSent then withdrawNow s else s)

/-! ## Selection in an owned phase -/

/-- R109: the data frame of a buffer, with the own address as source. -/
def dataFrameOf (own : Addr) (f : TxFrame) : DataFrame :=
  { source := finByte own, dest := f.dest.byte, cls := f.cls.byte, seq := f.seq.getD 0#8, payload := f.payload }

/-- R134: how long ago a due-order was given, in the order of issue: the earliest has the smallest value. -/
def dueAge (counter due : Byte) : Nat := (due - counter).toNat

/-- R105: of two retry entries, the one that became DUE earlier; a WAITING entry never goes before a DUE one. -/
def earlierDue (counter : Byte) (best : Option RetryEntry) (e : RetryEntry) : Option RetryEntry :=
  match e.due, best with
  | none, _ => best
  | some _, none => some e
  | some d, some b => if dueAge counter d < dueAge counter (b.due.getD 0#8) then some e else best

/-- R105: the DUE entry that became DUE earliest. -/
def earliestDue (d : Dlt) : Option RetryEntry := d.retry.foldl (earlierDue d.dueCounter) none

/-- R136: the entry as its retransmission leaves it. -/
def RetryEntry.resent (e : RetryEntry) : RetryEntry :=
  { e with frame := { e.frame with attempts := e.frame.attempts + 1 }, age := 0, due := none }

/-- R105, R136: the frame of a DUE entry is sent again; the entry keeps its place. -/
def retransmit (k : Phase) (e : RetryEntry) (s : State) : State :=
  let s1 := s.withDlt { s.dlt with retry := s.dlt.retry.map fun x => if x = e then x.resent else x }
  transmit (.data k none) (dataFrameOf s.own e.frame).bytes s1

/-- R106: the head can be sent: a broadcast, or a unicast to a present destination with room in the retry list and no
entry for it there. -/
def eligible (s : State) (f : TxFrame) : Bool :=
  match f.dest with
  | .broadcast => true
  | .unicast d =>
    s.rcm.present d && decide (s.dlt.retry.length < Config.retryListSize) && !s.dlt.retry.any (RetryEntry.isFor d)

/-- R106, R107: the head names a destination that is absent from the presence map. -/
def destAbsent (s : State) (f : TxFrame) : Bool :=
  match f.dest with
  | .broadcast => false
  | .unicast d => !s.rcm.present d

/-- R107: heads for absent destinations leave a queue and complete NO_DESTINATION, one after the other. -/
def dropAbsent (c : Cls) : List TxFrame → State → State
  | [], s => s.withTxe (s.txe.setQueue c [])
  | f :: rest, s =>
    if destAbsent s f then dropAbsent c rest (complete .noDestination f (s.withTxe (s.txe.setQueue c rest)))
    else s.withTxe (s.txe.setQueue c (f :: rest))

/-- R108: a broadcast takes its sequence and stays at the head of its queue until its read-back (R111). -/
def sendBroadcast (k : Phase) (c : Cls) (f : TxFrame) (rest : List TxFrame) (s : State) : State :=
  let g : TxFrame := { f with seq := some (f.seq.getD s.txe.bcastSeq), attempts := 1 }
  let t : Txe := { s.txe with bcastSeq := if f.seq.isNone then s.txe.bcastSeq + 1#8 else s.txe.bcastSeq }
  transmit (.data k (some c)) (dataFrameOf s.own g).bytes (s.withTxe (t.setQueue c (g :: rest)))

/-- R108, R110: a unicast takes its sequence, leaves its queue and joins the tail of the retry list. -/
def sendUnicast (k : Phase) (c : Cls) (d : Addr) (f : TxFrame) (rest : List TxFrame) (s : State) : State :=
  let g : TxFrame := { f with seq := some s.txe.nextSeq[d], attempts := 1 }
  let t : Txe := { s.txe with nextSeq := s.txe.nextSeq.set d (s.txe.nextSeq[d] + 1#8) }
  let s1 := (s.withTxe (t.setQueue c rest)).withDlt
    { s.dlt with retry := s.dlt.retry ++ [{ frame := g, age := 0, due := none, closed := false }] }
  transmit (.data k none) (dataFrameOf s.own g).bytes s1

/-- R106, R108: the head found under entry `i` is sent and the pointer moves to the entry after it. -/
def sendHead (k : Phase) (i : Fin 16) (c : Cls) (f : TxFrame) (rest : List TxFrame) (s : State) : State :=
  let s1 := match f.dest with
    | .broadcast => sendBroadcast k c f rest s
    | .unicast d => sendUnicast k c d f rest s
  s1.withTxe { s1.txe with pointer := i + 1 }

/-- R106: the walk over `n` more entries, from entry `i`. -/
def walk (k : Phase) : Nat → Fin 16 → State → State
  | 0, _, s => s
  | n + 1, i, s =>
    let c := s.txe.pattern[i]
    let s1 := dropAbsent c (s.txe.queue c) s
    match s1.txe.queue c with
    | [] => walk k n (i + 1) s1
    | f :: rest => if eligible s1 f then sendHead k i c f rest s1 else walk k n (i + 1) s1

/-- R105, R106: selection in an owned phase. -/
def select (k : Phase) (s : State) : State :=
  match earliestDue s.dlt with
  | some e => retransmit k e s
  | none => walk k 16 s.txe.pointer s

/-- DATA_PHASE (R104): only an ACTIVE station that owns the phase selects a frame. -/
def execDataPhase (k : Phase) (s : State) : Answer :=
  .next (if s.sync.state = .active ∧ s.slotTiming ∧ s.ptu.table[k].owner = some s.own then select k s else s)

/-! ## Timers -/

/-- The timer is running. -/
def Timer.runs : Timer → Bool
  | .stopped => false
  | .running _ => true

/-- LISTEN_TIMER_EXPIRY (R90, R92, R94): in LISTENING the takeover timer starts; a suspended learning or joining
station enters LISTENING, or WITHDRAWN with a withdraw pending. -/
def execListenTimerExpiry (s : State) : Answer :=
  .next (if s.sync.listenTimer.runs then
    if s.sync.state = .listening then
      s.withSync { s.sync with listenTimer := .stopped, takeoverTimer := .running (Config.takeoverDelay s.own) }
    else if s.sync.state = .learning ∨ s.sync.state = .joining ∨ s.sync.state = .relearn then
      if s.sync.withdrawPending then withdrawNow s else enterListening (closeEntries s)
    else s
  else s)

/-- R92: SYNC and RCM when the station founds the bus. -/
def foundBus (s : State) : State :=
  let s1 := s.withPtu s.ptu.found
  let r := s1.rcm.clear s1.cfg.config.absenceLimit
  let s2 := s1.withRcm { r with presence := r.presence.set s1.own (some 0) }
  let s3 := s2.withSync { s2.sync.stop with
    cond := .running, holder := true, holderAddr := some s2.own, cycleNumber := some 0#16 }
  post .holder (enter .active s3)

/-- R91: SYNC and RCM when a suspended ACTIVE station takes the timing. -/
def takeTiming (s : State) : State :=
  let s1 := s.withSync { s.sync with
    holder := true, holderAddr := some s.own, cycleNumber := nextNumber s.sync.cycleNumber, holderVacant := false,
    lost := 0, takeoverTimer := .stopped, cond := .running }
  post .holder (s1.withRcm { s1.rcm with absenceLimit := s1.cfg.config.absenceLimit })

/-- TAKEOVER_TIMER_EXPIRY (R91, R92): a LISTENING station founds the bus; a suspended ACTIVE station takes the timing,
or withdraws if a withdraw is pending. The cycle start is produced there and the marker follows. -/
def execTakeoverTimerExpiry (s : State) : Answer :=
  .next (if s.sync.takeoverTimer.runs then
    if s.sync.state = .listening then sendMarker (produceCycleStart (foundBus s))
    else if s.sync.state = .active ∧ s.sync.cond = .suspended then
      if s.sync.withdrawPending then withdrawNow s else sendMarker (produceCycleStart (takeTiming s))
    else s
  else s)

/-- LINE_FAULT_TIMER_EXPIRY (R17): the line has rested away from idle for the line-fault limit. At the instant of a
withdrawal that another fault has caused, it is recorded and asks no change (R157). -/
def execLineFaultTimerExpiry (s : State) (together : Bool := false) : Answer :=
  .next (match s.atWithdrawal together with
    | some l => if l.faultTimer then recordFault .lineFault .none s else s
    | none =>
      if s.lif.lineFaultTimer.runs then
        fatal .lineFault .none (s.withLif { s.lif with lineFaultTimer := .stopped })
      else s)

end Sys2Proof.Machine
end

