-- ==== Sys2Proof/Machine/Replies.lean ====
section
/-!
DEFINITION. The data of the host replies (R177 to R179, R183, R191 to R193), taken from the state at one instant.
-/

namespace Sys2Proof.Machine

/-- R191: an absent address, phase index or enumerated value is FFh. -/
def byteOrFF {α : Type} (f : α → Byte) : Option α → Byte
  | none => 0xFF#8
  | some a => f a

/-- R191: a cycle number that can be not known, in 3 bytes. -/
def cycleBytes : Option Half → List Byte
  | none => [0x00#8, 0x00#8, 0x00#8]
  | some n => 0x01#8 :: halfBytes n

/-- R191: a list of at most 8 phases in 8 bytes, the unused ones FFh. -/
def phaseList (l : List Phase) : List Byte := (List.range 8).map fun i => byteOrFF finByte (l[i]?)

/-- R191: the segments-known set in one byte, segment 0 the top bit. -/
def knownByte (v : Vector Bool 8) : Byte := byteOf (packDigits 2 (v.toList.map Bool.toNat))

/-- R192 offsets 16 to 22: the last arrival and departure records. -/
def membershipBytes (r : Rcm) : List Byte :=
  [byteOrFF (fun a : Arrival => finByte a.addr) r.lastArrival]
    ++ halfBytes ((r.lastArrival.map Arrival.cycle).getD 0#16)
    ++ [byteOrFF (fun d : Departure => finByte d.addr) r.lastDeparture,
        byteOrFF (fun d : Departure => d.reason.byte) r.lastDeparture]
    ++ halfBytes ((r.lastDeparture.map Departure.cycle).getD 0#16)

/-- R192 offsets 25 to 38: the claim register. -/
def claimBytes : Option Claim → List Byte
  | none => [0x00#8, 0xFF#8, 0x00#8, 0xFF#8, 0x00#8] ++ phaseList [] ++ [0x00#8]
  | some c =>
    let kind : List Byte := match c.kind with
      | .count => [0x00#8, byteOf c.requested, 0xFF#8]
      | .at p => [0x01#8, byteOf c.requested, finByte p]
    [0x01#8] ++ kind ++ [byteOf c.granted.length] ++ phaseList c.granted ++ [byteOf c.attempts]

/-- R192 offsets 39 to 48: the last claim outcome. -/
def lastClaimBytes : Option (ClaimOutcome × List Phase) → List Byte
  | none => [0xFF#8, 0x00#8] ++ phaseList []
  | some (o, l) => [o.byte, byteOf l.length] ++ phaseList l

/-- R192 offsets 52 to 59: the pool counts and the QUEUED buffers per class. -/
def poolBytes (t : Txe) (d : Dlt) : List Byte :=
  [byteOf t.free, byteOf t.queued, byteOf d.retry.length, byteOf d.done.length,
    byteOf t.q0.length, byteOf t.q1.length, byteOf t.q2.length, byteOf t.q3.length]

/-- R177, R192: the 63 data bytes of STATUS. -/
def statusData (s : State) : List Byte :=
  [s.sync.state.byte, s.sync.cond.byte, flagByte s.sync.holder, byteOrFF finByte s.sync.holderAddr]
    ++ cycleBytes s.sync.cycleNumber ++ [flagByte s.sync.withdrawPending]
    ++ addressSet (presentFlags s.rcm.presence) ++ addressSet s.rcm.degraded
    ++ membershipBytes s.rcm
    ++ [byteOf s.rcm.disagreeing, byteOf (ownedCount s.ptu.table s.own)]
    ++ claimBytes s.cru.claim ++ lastClaimBytes s.cru.lastClaim
    ++ [byteOf s.cru.releases.length, flagByte s.cru.releaseAll, byteOrFF ReleaseOutcome.byte s.cru.lastRelease]
    ++ poolBytes s.txe s.dlt
    ++ [flagByte s.txe.applyPending, byteOf s.rxe.queue.length, byteOf s.fru.highest.rank]

/-- R126, R193: the data of POP_RX. -/
def rxData (r : RxRecord) : List Byte :=
  [finByte r.source, r.dest.byte, r.cls.byte, r.seq, byteOf r.payload.length] ++ halfBytes r.cycle
    ++ [finByte r.phase] ++ r.payload

/-- R143, R193: the data of POP_DONE. -/
def doneData (d : DoneRec) : List Byte :=
  halfBytes d.frame.tag ++ [d.status.byte, d.frame.dest.byte, d.frame.cls.byte, byteOf d.frame.attempts]
    ++ cycleBytes d.cycle

/-- R25, R178, R193: the data of READ_TABLE for segment `g`. -/
def tableData (p : Ptu) (g : Fin 8) : List Byte :=
  (segmentBytes p.table g).toList ++ halfBytes p.digestValue
    ++ [flagByte p.digest.isSome, knownByte p.known, byteOf p.learnAttempts]

/-- R193: the first-fault context. -/
def FaultCtx.bytes : FaultCtx → List Byte
  | .none => [0xFF#8, 0xFF#8, 0xFF#8, 0xFF#8]
  | .frame a b c d => [a, b, c, d]
  | .sender a => [finByte a, 0xFF#8, 0xFF#8, 0xFF#8]
  | .phase k => [finByte k, 0xFF#8, 0xFF#8, 0xFF#8]

/-- R193: the first-fault record. -/
def firstFaultBytes : Option FirstFault → List Byte
  | none => [0xFF#8] ++ cycleBytes none ++ [0xFF#8] ++ FaultCtx.none.bytes
  | some f => [finByte f.kind.code] ++ cycleBytes f.cycle ++ [f.state.byte] ++ f.ctx.bytes

/-- R154, R178, R193: the data of READ_FAULTS. -/
def faultData (f : Fru) : List Byte :=
  ((List.finRange 19).flatMap fun k => [flagByte f.seen[k], byteOf f.counts[k]]) ++ firstFaultBytes f.first
    ++ [byteOf f.highest.rank] ++ halfBytes (f.mask.setWidth 16)

/-- R183, R193: the data of READ_EVENTS. -/
def eventData (h : Hp) : List Byte := eventBytes h.events ++ eventBytes h.enables

/-- R179, R193: the data of READ_CONFIG. -/
def configData (c : Cfg) : List Byte :=
  [byteOf c.config.absenceLimit, byteOf c.config.retryTimeout, byteOf c.config.retryLimit, byteOf c.config.quota,
    flagByte c.config.autoJoin] ++ eventBytes c.config.enables ++ halfBytes (c.config.mask.setWidth 16)
    ++ c.config.pattern.toList.map Cls.byte
    ++ [finByte c.straps.addr, flagByte c.straps.rate, flagByte c.straps.cfgSrc,
        byteOrFF ConfigSource.byte c.source, byteOrFF FailReason.byte c.failure]

end Sys2Proof.Machine
end

