-- ==== Sys2Proof/Machine/Startup.lean ====
section
/-!
DEFINITION. Resets and START (chapter Start-up and Configuration): POWER_ON_RESET, PIN_RESET, START, READ_ATTEMPT_END,
SCL_HOLD_TIMEOUT, RETRY_WAIT_EXPIRY.
-/

namespace Sys2Proof.Machine

/-! ## Resets (R168) -/

/-- R159, R168: every block at its reset values with this fault record and this step of START; the level of CS_N is
the card controller's, and the waiting commands are not the station's. R159 gives the fault mask only as START sets it:
that it stands in the record until then is a DESIGN CHOICE (log entry 7). -/
def resetTo (fru : Fru) (step : StartStep) (csLow : Bool) (s : State) : State :=
  { State.reset with
    fru := fru, cfg := { Cfg.reset with step := step }, hp := { Hp.reset with csLow := csLow }, pending := s.pending }

/-- POWER_ON_RESET (R168): the fault record is cleared; the cause lasts until START. -/
def execPowerOnReset (s : State) : Answer := .next (resetTo Fru.cleared .held s.hp.csLow s)

/-- PIN_RESET (R168): the fault record is kept; the cause lasts until START. -/
def execPinReset (s : State) : Answer := .next (resetTo s.fru .held s.hp.csLow s)

/-- R168, R175: the soft reset, at the rising edge of CS_N: the fault record is kept and START begins at once. -/
def softReset (s : State) : State := resetTo s.fru .sampling false s

/-! ## START (R160 to R167) -/

/-- R166: step 5 of START: the state that depends on the configuration in force. -/
def initialiseBlocks (s : State) : State :=
  let c := s.cfg.config
  let s1 := s.withRcm { s.rcm with absenceLimit := c.absenceLimit }
  let s2 := s1.withTxe { s1.txe with pattern := c.pattern, staged := c.pattern, pointer := 0, applyPending := false }
  let s3 := s2.withFru { s2.fru with mask := c.mask }
  s3.withHp { s3.hp with events := 0#9, enables := c.enables }

/-- R167: step 7 of START: OFFLINE, without SYNC_STATE, and on to LISTENING with auto-join. -/
def leaveStart (s : State) : State :=
  let s1 := (s.withCfg { s.cfg with step := .done }).withSync { s.sync with state := .offline }
  if s1.cfg.config.autoJoin then joinLine s1 else s1

/-- R164 to R167: steps 4 to 7 of START, with the configuration to put in force, its source and the failure reason. -/
def finishStart (c : Configuration) (src : ConfigSource) (why : Option FailReason) (s : State) : State :=
  let s1 := s.withCfg { s.cfg with config := c, source := some src, failure := why }
  let s2 := initialiseBlocks s1
  leaveStart (if why.isSome then recordFault .configDefaulted .none s2 else s2)

/-! ## The read transaction on CFG_SCL and CFG_SDA (R162) -/

/-- R162: a byte that CFG sends, most significant bit first, with CFG_SDA let go in the ninth clock for the memory's
acknowledge. -/
def writeByte (b : Byte) : List BusStep := (lineBits [b]).map .bit ++ [.bit true]

/-- R162: a byte that CFG reads: CFG_SDA let go for 8 clocks, held low in the ninth to acknowledge. -/
def readByte (ack : Bool) : List BusStep := List.replicate 8 (.bit true) ++ [.bit !ack]

/-- R162: the device address 1010000b with its direction bit, 1 for read. -/
def deviceByte (read : Bool) : Byte := if read then 0xA1#8 else 0xA0#8

/-- R162 step 3: 24 bytes read, of which the first 23 are acknowledged. -/
def readRecord : List BusStep := (List.range 24).flatMap fun i => readByte (decide (i < 23))

/-- R162 steps 2 to 4: the transaction with a memory that acknowledges all, or up to the byte it does not acknowledge. -/
def readTransaction (ackWrite ackAddress ackRead : Bool) : List BusStep :=
  [.startCondition] ++ writeByte (deviceByte false) ++
    (if ackWrite then
      writeByte 0x00#8 ++
        if ackAddress then
          [.repeatedStart] ++ writeByte (deviceByte true) ++ if ackRead then readRecord else []
        else []
    else []) ++ [.stopCondition]

/-- R162: what CFG has done when `n` clocks of its transaction are complete. A clock is one of the 9 of a byte. R162 does
not say whether the rise of CFG_SCL in a repeated start or a stop condition is one: here it is none, and a condition
before the clock held shows as done, DESIGN CHOICE (log entry 34). -/
def upToClock : Nat → List BusStep → List BusStep
  | _, [] => []
  | 0, .bit _ :: _ => []
  | n + 1, .bit v :: rest => .bit v :: upToClock n rest
  | n, x :: rest => x :: upToClock n rest

/-- R162: what one step drives, in order: whether CFG holds CFG_SCL low, and whether it holds CFG_SDA low. A pin it does
not hold is high by its pull-up, or low by the memory. -/
def BusStep.pins : BusStep → List (Bool × Bool)
  | .pulse => [(true, false), (false, false)]
  | .startCondition => [(false, false), (false, true), (true, true)]
  | .repeatedStart => [(true, false), (false, false), (false, true), (true, true)]
  | .bit v => [(true, !v), (false, !v), (true, !v)]
  | .stopCondition => [(true, true), (false, true), (false, false)]
  | .release => [(false, false)]

/-- R162: what CFG has driven on CFG_SCL and CFG_SDA in the current attempt, or the last one. -/
def State.cfgPins (s : State) : List (Bool × Bool) := s.cfg.bus.flatMap BusStep.pins

/-- CFG has done more on its pins. -/
def onBus (l : List BusStep) (s : State) : State := s.withCfg { s.cfg with bus := s.cfg.bus ++ l }

/-! ## Read attempts (R162) -/

/-- R162: a failed attempt: the 5 ms wait, or after the third attempt the end of step 2 without a record. -/
def attemptFailed (why : FailReason) (s : State) : State :=
  if s.cfg.attempts < Config.readAttempts then s.withCfg { s.cfg with step := .waiting }
  else finishStart Configuration.defaults .defaultsByFailure (some why) s

/-- R162: an attempt begins with the bus check: up to 9 pulses of CFG_SCL, until CFG_SDA is high. -/
def beginAttempt (sdaLow : Nat) (s : State) : State :=
  let s1 := s.withCfg { s.cfg with
    attempts := s.cfg.attempts + 1, step := .reading, sclPulses := min sdaLow Config.busCheckPulses
    bus := List.replicate (min sdaLow Config.busCheckPulses) .pulse }
  if sdaLow ≤ Config.busCheckPulses then s1 else attemptFailed .busFault (onBus [.release] s1)

/-- START (R160, R161): the reset ends; the straps are sampled; with CFG_SRC the first read attempt begins, without it
the defaults are put in force. Where START has begun already, nothing ends a reset and nothing changes. -/
def execStart (straps : Straps) (sdaLow : Nat) (s : State) : Answer :=
  .next (if s.cfg.step = .held ∨ s.cfg.step = .sampling then
    let s1 := s.withCfg { s.cfg with straps := straps }
    if straps.cfgSrc then beginAttempt sdaLow s1
    else finishStart Configuration.defaults .defaultsByStrap none s1
  else s)

/-- R162: the memory acknowledged the device address in both directions and the address byte. -/
def memoryAnswered (r : ReadAttempt) : Bool := r.ackWrite && r.ackAddress && r.ackRead

/-- READ_ATTEMPT_END (R162 to R164): the attempt completes with 24 bytes, which are validated, or fails with
NO_RESPONSE. -/
def execReadAttemptEnd (r : ReadAttempt) (s : State) : Answer :=
  .next (if s.cfg.step = .reading then
    let s1 := onBus (readTransaction r.ackWrite r.ackAddress r.ackRead) s
    if memoryAnswered r then
      match validateRecord r.data with
      | .ok c => finishStart c .record none s1
      | .error why => finishStart Configuration.defaults .defaultsByFailure (some why) s1
    else attemptFailed .noResponse s1
  else s)

/-- SCL_HOLD_TIMEOUT (R162): the memory has held CFG_SCL low for more than 10 ms, after `clocks` clocks of the
transaction; the attempt fails with BUS_FAULT and both pins are released. R162 leaves open whether a pulse of the bus
check, or the rise of CFG_SCL in a repeated start or a stop condition, is such a clock, and with which reason an attempt
then fails whose acknowledge is missing: here the hold falls at one of the 243 clocks of the bytes alone, behind a bus
check that is whole, DESIGN CHOICE (log entry 34). -/
def execSclHoldTimeout (s : State) (clocks : Nat := 0) : Answer :=
  .next (if s.cfg.step = .reading then
    attemptFailed .busFault (onBus (upToClock clocks (readTransaction true true true) ++ [.release]) s)
  else s)

/-- RETRY_WAIT_EXPIRY (R162): the 5 ms wait ends and the next attempt begins. -/
def execRetryWaitExpiry (sdaLow : Nat) (s : State) : Answer :=
  .next (if s.cfg.step = .waiting then beginAttempt sdaLow s else s)

end Sys2Proof.Machine
end

