-- ==== Sys2Proof/Machine/HostPort.lean ====
section
/-!
DEFINITION. The host port (chapter Host Port): transactions, the checks of a request (R172), each request's effect and
reply, the commits of the two pops (R174) and the shifting out of a reply (R171).
-/

namespace Sys2Proof.Machine

/-! ## Transactions -/

/-- TRANSACTION_BEGIN (R170, R171, R176): CS_N falls and the port counts bytes from that edge, unless a reset lasts. `sdi`
is what the card controller then has SDI carry, one bit for each clock of SCK. -/
def execTransactionBegin (s : State) (sdi : List Bool := []) : Answer :=
  .next (if s.hp.csLow then s
    else if s.cfg.step = .held then s.withHp { s.hp with csLow := true }
    else s.withHp { s.hp with csLow := true, sdi := sdi, bits := [], tx := .request, request := [], reply := none })

/-- R171: the port returns to IDLE at a rising edge of CS_N; a byte in progress is discarded. -/
def portIdle (s : State) : State :=
  s.withHp { s.hp with
    csLow := false, sdi := [], bits := [], tx := .idle, request := [], reply := none, softReset := false }

/-- TRANSACTION_END (R171, R173, R175): CS_N rises. An accepted soft reset is carried out; a request that was not
complete is discarded, with HOST_PROTOCOL outside START and OFFLINE if a whole byte had come. -/
def execTransactionEnd (wholeBytes : Nat) (s : State) : Answer :=
  .next (if s.hp.csLow = false then s
    else if s.hp.softReset then softReset s
    else if s.hp.tx = .request ∧ 1 ≤ s.hp.request.length + wholeBytes ∧ s.sync.state ≠ .start ∧
        s.sync.state ≠ .offline then
      recordFault .hostProtocol .none (portIdle s)
    else portIdle s)

/-- R171: a request is taken: its bytes are complete and the reply is fixed, to go out from the next byte on. -/
def answer (code : Byte) (args : List Byte) (st : Status) (data : List Byte) (s : State) : State :=
  s.withHp { s.hp with
    bits := [], tx := .reply, request := code :: byteOf args.length :: args,
    reply := some { status := st, data := data, shifted := 0 } }

/-- What a request does when it passes the checks of R172: the state it leaves, its status and its data. -/
structure Result where
  state : State
  status : Status
  data : List Byte

/-- A request refused by its own rule: no state changes and no data. -/
def refuse (s : State) (st : Status) : Result := { state := s, status := st, data := [] }

/-- A request answered OK without data. -/
def accept (s : State) : Result := { state := s, status := .ok, data := [] }

/-- R172: the checks 2 and 3 in order, then the request's own rule. A request is taken only in REQUEST (R171). -/
def takeRequest (code : Byte) (lengthOk : Bool) (args : List Byte) (rule : State → Result) (s : State) : State :=
  if s.hp.tx ≠ .request then s
  else if s.sync.state = .start ∧ code ≠ 0x01#8 then answer code args .starting [] s
  else if lengthOk = false then answer code args .badArg [] s
  else answer code args (rule s).status (rule s).data (rule s).state

/-- BAD_REQUEST (R172 check 1): a code that names none of the 20 requests. -/
def execBadRequest (code : Byte) (args : List Byte) (s : State) : Answer :=
  .next (if s.hp.tx = .request ∧ requestCodeNamed code = false then answer code args .badRequest [] s else s)

/-! ## Status and readings -/

/-- STATUS (R177). -/
def execStatus (args : List Byte) (s : State) : Answer :=
  .next (takeRequest 0x01#8 args.isEmpty args (fun s => { state := s, status := .ok, data := statusData s }) s)

/-- R25, R178: READ_TABLE of the segment a byte names. -/
def readTableRule (b : Byte) (s : State) : Result :=
  if h : b.toNat < 8 then { state := s, status := .ok, data := tableData s.ptu ⟨b.toNat, h⟩ } else refuse s .badArg

/-- READ_TABLE (R25, R178). -/
def execReadTable (args : List Byte) (s : State) : Answer :=
  .next (takeRequest 0x09#8 (args.length == 1) args (readTableRule (at' args 0)) s)

/-- READ_FAULTS (R154, R178). -/
def execReadFaults (args : List Byte) (s : State) : Answer :=
  .next (takeRequest 0x0A#8 args.isEmpty args (fun s => { state := s, status := .ok, data := faultData s.fru }) s)

/-- R158: the record cleared; the mask stands. -/
def Fru.clear (f : Fru) : Fru := { Fru.cleared with mask := f.mask }

/-- CLEAR_FAULTS (R158). -/
def execClearFaults (args : List Byte) (s : State) : Answer :=
  .next (takeRequest 0x0B#8 args.isEmpty args (fun s => accept (s.withFru s.fru.clear)) s)

/-- READ_EVENTS (R183). -/
def execReadEvents (args : List Byte) (s : State) : Answer :=
  .next (takeRequest 0x0C#8 args.isEmpty args (fun s => { state := s, status := .ok, data := eventData s.hp }) s)

/-- R183: the named flags are cleared; the reply shows the flags after the clear. -/
def ackEventsRule (args : List Byte) (s : State) : Result :=
  match eventSetOf (at' args 0) (at' args 1) with
  | none => refuse s .badArg
  | some e =>
    { state := s.withHp { s.hp with events := s.hp.events &&& ~~~ e }, status := .ok,
      data := eventBytes (s.hp.events &&& ~~~ e) }

/-- ACK_EVENTS (R183). -/
def execAckEvents (args : List Byte) (s : State) : Answer :=
  .next (takeRequest 0x0D#8 (args.length == 2) args (ackEventsRule args) s)

/-- R181: all nine enables are replaced. -/
def setEnablesRule (args : List Byte) (s : State) : Result :=
  match eventSetOf (at' args 0) (at' args 1) with
  | none => refuse s .badArg
  | some e => accept (s.withHp { s.hp with enables := e })

/-- SET_ENABLES (R181). -/
def execSetEnables (args : List Byte) (s : State) : Answer :=
  .next (takeRequest 0x0E#8 (args.length == 2) args (setEnablesRule args) s)

/-- READ_CONFIG (R179). -/
def execReadConfig (args : List Byte) (s : State) : Answer :=
  .next (takeRequest 0x14#8 args.isEmpty args (fun s => { state := s, status := .ok, data := configData s.cfg }) s)

/-! ## Frames to send, patterns -/

/-- R172 check 3: PUSH has its five fixed bytes and the frame length they name. -/
def pushLengthOk (args : List Byte) : Bool := 5 ≤ args.length && args.length == 5 + (at' args 4).toNat

/-- R98: the checks of PUSH, in order. -/
def pushRule (args : List Byte) (s : State) : Result :=
  match clsOf (at' args 1), destOf (at' args 0) with
  | some c, some d =>
    if d = .unicast s.own ∨ 60 < (at' args 4).toNat ∨ (at' args 4).toNat % 4 ≠ 0 then refuse s .badArg
    else if s.txe.free = 0 then refuse s .poolEmpty
    else
      let f : TxFrame := { dest := d, cls := c, tag := half (at' args 2) (at' args 3), payload := args.drop 5,
                           seq := none, attempts := 0 }
      let t : Txe := { s.txe with free := s.txe.free - 1 }
      accept (s.withTxe (t.setQueue c (t.queue c ++ [f])))
  | _, _ => refuse s .badArg

/-- PUSH (R98). -/
def execPush (args : List Byte) (s : State) : Answer :=
  .next (takeRequest 0x02#8 (pushLengthOk args) args (pushRule args) s)

/-- R102: STAGE_PATTERN's checks and effect. -/
def stagePatternRule (args : List Byte) (s : State) : Result :=
  if args.any (fun b => (clsOf b).isNone) then refuse s .badArg
  else if s.txe.applyPending then refuse s .busy
  else accept (s.withTxe { s.txe with staged := tab fun i => (clsOf (at' args i.val)).getD .c0 })

/-- STAGE_PATTERN (R102). -/
def execStagePattern (args : List Byte) (s : State) : Answer :=
  .next (takeRequest 0x0F#8 (args.length == 16) args (stagePatternRule args) s)

/-- APPLY_PATTERN (R103). -/
def execApplyPattern (args : List Byte) (s : State) : Answer :=
  .next (takeRequest 0x10#8 args.isEmpty args (fun s => accept (s.withTxe { s.txe with applyPending := true })) s)

/-! ## Pops -/

/-- POP_RX (R127): the head record, or EMPTY. -/
def execPopRx (args : List Byte) (s : State) : Answer :=
  .next (takeRequest 0x03#8 args.isEmpty args (fun s =>
    match s.rxe.queue with
    | [] => refuse s .empty
    | r :: _ => { state := s, status := .ok, data := rxData r }) s)

/-- POP_DONE (R144): the completion record of the head buffer, or EMPTY. -/
def execPopDone (args : List Byte) (s : State) : Answer :=
  .next (takeRequest 0x04#8 args.isEmpty args (fun s =>
    match s.dlt.done with
    | [] => refuse s .empty
    | d :: _ => { state := s, status := .ok, data := doneData d }) s)

/-- R174: the reply to the request of this code is being shifted out. -/
def replyOf (code : Byte) (h : Hp) : Option Reply :=
  if h.tx = .reply ∧ h.request.head? = some code then h.reply else none

/-- R171: the last reply byte has been shifted out. -/
def replyDone (r : Reply) (s : State) : State :=
  s.withHp { s.hp with bits := [], tx := .trailing, reply := some { r with shifted := 2 + r.data.length } }

/-- R174: the reply's last byte commits a pop, by a command of its own. -/
def commitsPop (h : Hp) (r : Reply) : Bool :=
  (h.request.head? == some 0x03#8 || h.request.head? == some 0x04#8) && r.status == .ok

/-- R171: a whole byte has been shifted in, and one out at the same time: in REQUEST it joins the request; in REPLY one
byte of the reply has gone out, and with the last one the port enters TRAILING, but for the reply of a pop, whose last
byte is the command that commits it (R174). In the other transaction states a byte changes nothing. -/
def shiftByte (b : Byte) (s : State) : State :=
  match s.hp.tx, s.hp.reply with
  | .request, _ => s.withHp { s.hp with request := s.hp.request ++ [b] }
  | .reply, some r =>
    if r.shifted + 1 < r.bytes.length then s.withHp { s.hp with reply := some { r with shifted := r.shifted + 1 } }
    else if commitsPop s.hp r then s
    else replyDone r s
  | _, _ => s

/-- R171, R174: the command that a whole byte completes: the request, by its last byte, or the commit of a pop, by the last
byte of its reply. -/
def completedBy (b : Byte) (s : State) : Option Instr :=
  match s.hp.tx, s.hp.reply with
  | .request, _ => requestOf (s.hp.request ++ [b])
  | .reply, some r =>
    if commitsPop s.hp r ∧ r.bytes.length ≤ r.shifted + 1 then
      some (if s.hp.request.head? = some 0x03#8 then .popRxCommit else .popDoneCommit)
    else none
  | _, _ => none

/-- POP_RX_COMMIT (R174): the head record returned by POP_RX leaves the receive queue. -/
def execPopRxCommit (s : State) : Answer :=
  .next (match replyOf 0x03#8 s.hp with
    | none => s
    | some r =>
      if r.status = .ok then replyDone r (s.withRxe { s.rxe with queue := s.rxe.queue.tail }) else replyDone r s)

/-- R100, R174: the head buffer leaves the completion list and becomes FREE. -/
def freeHead (s : State) : State :=
  match s.dlt.done with
  | [] => s
  | _ :: rest => (s.withDlt { s.dlt with done := rest }).withTxe { s.txe with free := s.txe.free + 1 }

/-- POP_DONE_COMMIT (R174): the head buffer returned by POP_DONE becomes FREE. -/
def execPopDoneCommit (s : State) : Answer :=
  .next (match replyOf 0x04#8 s.hp with
    | none => s
    | some r => if r.status = .ok then replyDone r (freeHead s) else replyDone r s)

/-! ## Claims and releases -/

/-- R56: the checks of CLAIM, in order. -/
def claimRule (b : Byte) (s : State) : Result :=
  if s.sync.state ≠ .active then refuse s .notActive
  else if b.toNat < 1 ∨ 8 < b.toNat then refuse s .badArg
  else if s.cru.claim.isSome then refuse s .busy
  else if s.cfg.config.quota < ownedCount s.ptu.table s.own + b.toNat then refuse s .quota
  else accept (s.withCru { s.cru with
    claim := some { kind := .count, requested := b.toNat, granted := [], attempts := 0 }, lastClaim := none })

/-- CLAIM (R56). -/
def execClaim (args : List Byte) (s : State) : Answer :=
  .next (takeRequest 0x05#8 (args.length == 1) args (claimRule (at' args 0)) s)

/-- R57: the checks of CLAIM_AT, in order. -/
def claimAtRule (b : Byte) (s : State) : Result :=
  if s.sync.state ≠ .active then refuse s .notActive
  else match phaseOf b with
    | none => refuse s .badArg
    | some p =>
      if s.ptu.table[p] ≠ .vacant then refuse s .notVacant
      else if s.cru.claim.isSome then refuse s .busy
      else if s.cfg.config.quota < ownedCount s.ptu.table s.own + 1 then refuse s .quota
      else accept (s.withCru { s.cru with
        claim := some { kind := .at p, requested := 1, granted := [], attempts := 0 }, lastClaim := none })

/-- CLAIM_AT (R57). -/
def execClaimAt (args : List Byte) (s : State) : Answer :=
  .next (takeRequest 0x06#8 (args.length == 1) args (claimAtRule (at' args 0)) s)

/-- R63: a phase inserted in ascending place. -/
def insertPhase (p : Phase) : List Phase → List Phase
  | [] => [p]
  | q :: rest => if p < q then p :: q :: rest else q :: insertPhase p rest

/-- R63: the checks of RELEASE, in order. -/
def releaseRule (b : Byte) (s : State) : Result :=
  if s.sync.state ≠ .active then refuse s .notActive
  else match phaseOf b with
    | none => refuse s .badArg
    | some p =>
      if s.ptu.table[p] ≠ .owned s.own then refuse s .notOwner
      else if p ∈ s.cru.releases then accept s
      else if Config.releaseListSize ≤ s.cru.releases.length then refuse s .busy
      else accept (s.withCru { s.cru with releases := insertPhase p s.cru.releases })

/-- RELEASE (R63). -/
def execRelease (args : List Byte) (s : State) : Answer :=
  .next (takeRequest 0x07#8 (args.length == 1) args (releaseRule (at' args 0)) s)

/-- RELEASE_ALL (R64). -/
def execReleaseAll (args : List Byte) (s : State) : Answer :=
  .next (takeRequest 0x08#8 args.isEmpty args (fun s =>
    if s.sync.state ≠ .active then refuse s .notActive
    else accept (s.withCru { s.cru with releaseAll := true })) s)

/-! ## Joining, withdrawing, soft reset -/

/-- JOIN (R93). -/
def execJoin (args : List Byte) (s : State) : Answer :=
  .next (takeRequest 0x11#8 args.isEmpty args (fun s =>
    if s.sync.state = .offline ∨ s.sync.state = .withdrawn then accept (joinLine s) else refuse s .state) s)

/-- R94: host WITHDRAW by state. -/
def withdrawRule (s : State) : Result :=
  match s.sync.state with
  | .active => accept (s.withSync { s.sync with withdrawPending := true })
  | .relearn => accept (s.withSync { s.sync with withdrawPending := true })
  | .joining => refuse s .busy
  | .listening => accept (withdrawNow s)
  | .learning => accept (withdrawNow s)
  | .offline => refuse s .state
  | .withdrawn => refuse s .state
  | .start => refuse s .starting

/-- WITHDRAW (R94). -/
def execWithdraw (args : List Byte) (s : State) : Answer :=
  .next (takeRequest 0x12#8 args.isEmpty args withdrawRule s)

/-- SOFT_RESET (R175): accepted, to be carried out at the rising edge of CS_N. -/
def execSoftReset (args : List Byte) (s : State) : Answer :=
  .next (takeRequest 0x13#8 args.isEmpty args (fun s => accept (s.withHp { s.hp with softReset := true })) s)

end Sys2Proof.Machine
end

