-- ==== Sys2Proof/Machine/LineEvents.lean ====
section
/-!
DEFINITION. What LIF hands on (R8): markers to SYNC (R80, R87), roll words to RCM (R41), data frames to RXE (R117 to
R125), and the read-backs of the station's own frames (R39, R86, R111, R112).
-/

namespace Sys2Proof.Machine

/-- R5: a reception that begins is the one that counts: the receiver runs, and the slot has had none yet. -/
def State.awaits (s : State) (had : Bool) : Bool := s.sync.state.onLine && !(s.slotTiming && had)

/-! ## Markers -/

/-- R10, R80: the marker lies in the window, both ends included. -/
def inWindow (offset : Int) : Bool := -(Config.windowBits : Int) ≤ offset && offset ≤ (Config.windowBits : Int)

/-- R80, R87: SYNC takes an intact marker by the station's state and cycle condition. -/
def handleMarker (m : Marker) (offset : Int) (s : State) : State :=
  if s.sync.state.onLine = false then s
  else if m.holder = s.own then fatal .addressInUse (.sender s.own) s
  else if s.sync.state = .listening then takeMarker m offset true s
  else if s.sync.holder then
    if m.holder < s.own then takeMarker m offset true (dropHolder s) else s
  else if s.sync.cond = .suspended then takeMarker m offset true s
  else if s.slotTiming ∧ inWindow offset = true ∧ s.sync.markerDone = false then takeMarker m offset false s
  else s

/-- R10, R80, R187: a marker reception as SYNC gets it: bytes that are no intact marker, or carry a holder address or
absence limit out of range, are not taken as a marker. At the instant of a withdrawal another station's use of the own
address is still recorded (R157). -/
def takeMarkerBytes (offset : Int) (together : Bool) (frame : List Byte) (s : State) : State :=
  match parseMarker frame with
  | none => s
  | some m =>
    match s.atWithdrawal together with
    | some l => if l.state.onLine ∧ m.holder = s.own then recordFault .addressInUse (.sender s.own) s else s
    | none => handleMarker m offset s

/-- MARKER_RECEIVED (R5, R10, R80). -/
def execMarkerReceived (frame : List Byte) (offset : Int) (s : State) (part : Part := .whole)
    (together : Bool := false) : Answer :=
  .next (hear part frame s.sync.state.onLine (takeMarkerBytes offset together) s)

/-- R88: a cycle without a valid marker. -/
def markerLost (s : State) : State :=
  let s1 := recordFault .markerLost .none s
  let s2 := s1.withSync { s1.sync with lost := s1.sync.lost + 1 }
  if s2.sync.lost = 1 then s2.withSync { s2.sync with cond := .flywheel } else suspend s2

/-- MARKER_SLOT_END (R5, R16, R88): the slot ends without a valid marker, at a station that is not holder, and that is its
one result; a reception still in progress ends with it. -/
def execMarkerSlotEnd (s : State) (together : Bool := false) : Answer :=
  .next (match s.atWithdrawal together with
    | some l => if l.markerMissing then recordFault .markerLost .none s else s
    | none =>
      let s1 := endReception s
      if s1.slotTiming ∧ s1.sync.holder = false ∧ s1.sync.markerDone = false then
        markerLost (s1.withSync { s1.sync with markerDone := true })
      else s1)

/-- OWN_MARKER_READ_BACK (R11, R86): the second failure makes the holder yield and suspends its cycle. The holder address
stands at the own address: R84 says so for RELEARN only, so DESIGN CHOICE here (log entry 30). -/
def execOwnMarkerReadBack (r : Reception) (s : State) : Answer :=
  .next (match s.lif.tx with
    | some { frame := .marker, bytes := sent } =>
      let s1 := cutTransmission s
      if readBackIntact sent r then s1.withSync { s1.sync with lost := 0 }
      else
        let s2 := recordFault .txCollision .none s1
        let s3 := s2.withSync { s2.sync with lost := s2.sync.lost + 1 }
        if s3.sync.lost = 1 then s3 else suspend (dropHolder s3)
    | _ => s)

/-! ## Roll words -/

/-- R5, R8, R41: the slot is one whose reception goes to RCM as a peer's: another address's, or the own slot of a station
that did not drive it (LEARNING); and it has had none yet. -/
def heardAsPeer (k : Addr) (s : State) : Bool :=
  s.slotTiming && (k != s.own || s.sync.state == .learning) && !s.lif.rollDone[k]

/-- R8, R157: the same, at the instant of a withdrawal. -/
def Left.heardAsPeer (l : Left) (own k : Addr) : Bool := l.timing && (k != own || l.state == .learning)

/-- R41, R43 to R45: an accepted roll word enters the record, its acks go to DLT and its digest is compared. -/
def acceptRollWord (k : Addr) (w : RollWord) (s : State) : State :=
  let s1 := s.withRcm { s.rcm with record := s.rcm.record.set k (some w) }
  let mine := (w.acks.filter fun p => p.1 == finByte s.own).map Prod.snd
  let s2 := mine.foldl (takeAck k) s1
  if !w.relearning && !w.leave && s2.ptu.digest.isSome && s2.ptu.digest != some w.digest then
    s2.withRcm { s2.rcm with tally := s2.rcm.tally + 1 }
  else s2

/-- R41, R42: the checks on an intact roll word of slot `k`, in order. -/
def checkRollWord (k : Addr) (w : RollWord) (s : State) : State :=
  if w.sender ≠ finByte k then recordFault .unexpectedRoll (.sender k) s
  else if k = s.own then fatal .addressInUse (.sender s.own) s
  else if w.wellFormed k = false then recordFault .unexpectedRoll (.sender k) s
  else if s.rcm.present k = false ∧ w.join = false then recordFault .unexpectedRoll (.sender k) s
  else acceptRollWord k w s

/-- R41, R157: what RCM still reports of an intact roll word at the instant of a withdrawal: the checks that ask nothing
of the presence map, which the withdrawal has emptied. -/
def reportRollWord (k : Addr) (w : RollWord) (s : State) : State :=
  if w.sender ≠ finByte k then recordFault .unexpectedRoll (.sender k) s
  else if k = s.own then recordFault .addressInUse (.sender s.own) s
  else if w.wellFormed k = false then recordFault .unexpectedRoll (.sender k) s
  else s

/-- R5, R8, R9, R41: an intact reception in roll slot `k`: bytes that are no intact roll word leave the slot damaged. -/
def takeRollBytes (k : Addr) (together : Bool) (frame : List Byte) (s : State) : State :=
  match s.atWithdrawal together with
  | some l =>
    if l.heardAsPeer s.own k then
      match parseRollWord frame with
      | none => recordFault .rollCheck (.sender k) s
      | some w => reportRollWord k w s
    else s
  | none =>
    if heardAsPeer k s then
      match parseRollWord frame with
      | none => recordFault .rollCheck (.sender k) (rollHad k s)
      | some w => checkRollWord k w (rollHad k s)
    else s

/-- ROLL_WORD_RECEIVED (R5, R41). -/
def execRollWordReceived (k : Addr) (frame : List Byte) (s : State) (part : Part := .whole)
    (together : Bool := false) : Answer :=
  .next (hear part frame (s.awaits s.lif.rollDone[k]) (takeRollBytes k together) s)

/-- ROLL_SLOT_DAMAGED (R5, R9): the reception of the slot ends damaged. -/
def execRollSlotDamaged (k : Addr) (s : State) (together : Bool := false) : Answer :=
  .next (match s.atWithdrawal together with
    | some l => if l.heardAsPeer s.own k then recordFault .rollCheck (.sender k) s else s
    | none =>
      let s1 := endReception s
      if heardAsPeer k s1 then recordFault .rollCheck (.sender k) (rollHad k s1) else s1)

/-- R39: a failed read-back of a normal or RELEARNING roll word; the second in succession is ADDRESS_CONFLICT. -/
def rollCollision (s : State) : State :=
  let s1 := s.withRcm { s.rcm with ownCollisions := s.rcm.ownCollisions + 1 }
  if s1.rcm.ownCollisions = 1 then s1 else fatal .addressConflict (.sender s.own) s1

/-- OWN_ROLL_READ_BACK (R11, R39), by the kind of roll word sent. -/
def execOwnRollReadBack (r : Reception) (s : State) : Answer :=
  .next (match s.lif.tx with
    | some { frame := .roll w, bytes := sent } =>
      let s1 := rollHad s.own (cutTransmission s)
      if w.leave then s1
      else if readBackIntact sent r then
        s1.withRcm { s1.rcm with record := s1.rcm.record.set s1.own (some w), ownCollisions := 0 }
      else if w.join then fatal .addressConflict (.sender s1.own) s1
      else rollCollision s1
    | _ => s)

/-! ## Data frames -/

/-- R5, R8: the reception of phase `k` goes to RXE: slot timing, a phase that the station did not drive, and none had in
it yet. -/
def handedToRxe (k : Phase) (s : State) : Bool :=
  s.slotTiming && !s.lif.phaseDone[k] &&
    match s.lif.tx with
    | some { frame := .data j _, bytes := _ } => j != k
    | _ => true

/-- R126, R127: a record joins the receive queue; RX_READY if the queue was empty. -/
def enqueueRx (r : RxRecord) (s : State) : State :=
  let s1 := s.withRxe { s.rxe with queue := s.rxe.queue ++ [r] }
  if s.rxe.queue.isEmpty then post .rxReady s1 else s1

/-- R125, R128: the ack list when an ack for (`a`, `q`) is given: an entry for the source takes the sequence and keeps
its place, else an entry joins the tail. -/
def giveAck (a : Addr) (q : Byte) (l : List (Addr × Byte)) : List (Addr × Byte) :=
  if l.any (fun p => p.1 == a) then l.map fun p => if p.1 = a then (a, q) else p else l ++ [(a, q)]

/-- R125: the ack list when a duplicate of (`a`, `q`) arrives. -/
def giveDuplicateAck (a : Addr) (q : Byte) (l : List (Addr × Byte)) : List (Addr × Byte) :=
  if l.any (fun p => p.1 == a) then l else l ++ [(a, q)]

/-- R123: a frame of sequence `q` follows a gap: the record holds a sequence and `q` is not its successor. -/
def gapAfter (last : Option Byte) (q : Byte) : Bool :=
  match last with
  | none => false
  | some v => q != v + 1#8

/-- R123 to R125: checks 5, for a unicast frame to the own address from the owner of its phase. -/
def receiveUnicast (r : RxRecord) (ctx : FaultCtx) (s : State) : State :=
  if s.rxe.lastAcc[r.source] = some r.seq then
    s.withRxe { s.rxe with acks := giveDuplicateAck r.source r.seq s.rxe.acks }
  else if Config.rxQueueSize ≤ s.rxe.queue.length then recordFault .rxOverflow ctx s
  else
    let s1 := enqueueRx r s
    let s2 := s1.withRxe { s1.rxe with
      lastAcc := s1.rxe.lastAcc.set r.source (some r.seq), acks := giveAck r.source r.seq s1.rxe.acks }
    if gapAfter s.rxe.lastAcc[r.source] r.seq then recordFault .sequenceGap ctx s2 else s2

/-- R121: check 4, for a broadcast frame from the owner of its phase. -/
def receiveBroadcast (r : RxRecord) (ctx : FaultCtx) (s : State) : State :=
  if Config.rxQueueSize ≤ s.rxe.queue.length then recordFault .rxOverflow ctx s else enqueueRx r s

/-- R118 to R125: the checks on an intact data frame of phase `k`, in order. -/
def checkDataFrame (k : Phase) (f : DataFrame) (s : State) : State :=
  match addrOf f.source, clsOf f.cls with
  | some a, some c =>
    if f.dest ≠ finByte s.own ∧ f.dest ≠ 63#8 then s
    else
      let ctx := FaultCtx.frame f.source f.dest f.cls f.seq
      if s.ptu.table[k].owner ≠ some a ∨ a = s.own then recordFault .foreignFrame ctx s
      else
        let r : RxRecord := { source := a, dest := if f.dest = 63#8 then .broadcast else .unicast s.own, cls := c,
                              seq := f.seq, payload := f.payload, cycle := s.cycle, phase := k }
        if f.dest = 63#8 then receiveBroadcast r ctx s else receiveUnicast r ctx s
  | _, _ => recordFault .frameCheck (.phase k) s

/-- R8, R117, R157: RXE was handed phase `k` at the instant of a withdrawal. -/
def Left.heardByRxe (l : Left) (k : Phase) : Bool := l.state == .active && l.timing && l.drove != some k

/-- R118, R157: what RXE still reports of an intact data frame at the instant of a withdrawal: check 1, which asks nothing
of the table, which the withdrawal has emptied. -/
def reportDataFrame (k : Phase) (f : DataFrame) (s : State) : State :=
  if (addrOf f.source).isNone ∨ (clsOf f.cls).isNone then recordFault .frameCheck (.phase k) s else s

/-- R8, R117, R118: RXE acts, in ACTIVE only, on what it is handed of phase `k`: a data frame, or a damaged phase. -/
def actOnPhase (k : Phase) (f : Option DataFrame) (s : State) : State :=
  if s.sync.state = .active then
    match f with
    | none => recordFault .frameCheck (.phase k) s
    | some f => checkDataFrame k f s
  else s

/-- R5, R117, R118: an intact reception in data phase `k`: bytes that are no intact data frame leave the phase damaged. -/
def takeDataBytes (k : Phase) (together : Bool) (frame : List Byte) (s : State) : State :=
  match s.atWithdrawal together with
  | some l =>
    if l.heardByRxe k then
      match parseDataFrame frame with
      | none => recordFault .frameCheck (.phase k) s
      | some f => reportDataFrame k f s
    else s
  | none =>
    if handedToRxe k s then actOnPhase k (parseDataFrame frame) (phaseHad k s) else s

/-- DATA_FRAME_RECEIVED (R5, R117). -/
def execDataFrameReceived (k : Phase) (frame : List Byte) (s : State) (part : Part := .whole)
    (together : Bool := false) : Answer :=
  .next (hear part frame (s.awaits s.lif.phaseDone[k]) (takeDataBytes k together) s)

/-- DATA_PHASE_DAMAGED (R5, R117): the reception of the phase ends damaged. -/
def execDataPhaseDamaged (k : Phase) (s : State) (together : Bool := false) : Answer :=
  .next (match s.atWithdrawal together with
    | some l => if l.heardByRxe k then recordFault .frameCheck (.phase k) s else s
    | none =>
      let s1 := endReception s
      if handedToRxe k s1 then actOnPhase k none (phaseHad k s1) else s1)

/-- R111: the broadcast at the head of a class queue leaves it DONE, SENT or COLLIDED. -/
def finishBroadcast (c : Cls) (st : DoneStatus) (s : State) : State :=
  match s.txe.queue c with
  | [] => s
  | f :: rest => complete st f (s.withTxe (s.txe.setQueue c rest))

/-- R112: a failed read-back of data phase `k` acts on the cycle mark and the conflict count. -/
def phaseCollision (k : Phase) (s : State) : State :=
  let s1 := recordFault .txCollision (.phase k) s
  if s1.txe.mark = .failed then s1
  else if s1.txe.conflict < 2 then s1.withTxe { s1.txe with mark := .failed }
  else degradeToRelearn .scheduleConflict (.phase k) s1

/-- R112: an intact read-back of an own data phase. -/
def phaseClean (s : State) : State :=
  if s.txe.mark = .none then s.withTxe { s.txe with mark := .clean } else s

/-- OWN_DATA_READ_BACK (R11, R111, R112). -/
def execOwnDataReadBack (r : Reception) (s : State) : Answer :=
  .next (match s.lif.tx with
    | some { frame := .data k bcast, bytes := sent } =>
      let s1 := phaseHad k (cutTransmission s)
      let ok := readBackIntact sent r
      let s2 := match bcast with
        | none => s1
        | some c => finishBroadcast c (if ok then .sent else .collided) s1
      if ok then phaseClean s2 else phaseCollision k s2
    | _ => s)

/-! ## From the line to the commands -/

/-- R7: a slot of the cycle. -/
inductive Slot where
  | marker
  | roll (k : Addr)
  | phase (k : Phase)
deriving DecidableEq, Repr

/-- R7, R14, R15: the bit time in which a slot begins, where the cycle start has been placed at `shift`: the marker slot
with the cycle start that was expected, the others at their offsets from the one placed. -/
def Slot.begins (shift : Int) : Slot → Int
  | .marker => 0
  | .roll k => Config.rollSlotOffset k + shift
  | .phase k => Config.dataPhaseOffset k + shift

/-- R7, R14, R15: the bit time behind the last one of a slot. -/
def Slot.ends (shift : Int) : Slot → Int
  | .marker => Config.markerSlotBits + shift
  | .roll k => Config.rollSlotOffset k + Config.rollSlotBits + shift
  | .phase k => Config.dataPhaseOffset k + Config.dataPhaseBits + shift

/-- R11: the slot of a transmission. -/
def SentFrame.slot (own : Addr) : SentFrame → Slot
  | .marker => .marker
  | .roll _ => .roll own
  | .data k _ => .phase k

/-- R11: the read-back of a transmission whose slot had this result. -/
def SentFrame.readBack (r : Reception) : SentFrame → Instr
  | .marker => .ownMarkerReadBack r
  | .roll _ => .ownRollReadBack r
  | .data _ _ => .ownDataReadBack r

/-- R10: an intact marker is handed to SYNC wherever it falls, `offset` bit times from the expected cycle start. -/
def markerHandOff (b : List Byte) (offset : Int) (together : Bool) : List Instr :=
  if (parseMarker b).isSome then [.markerReceived b offset .whole together] else []

/-- R8, R10, R16: what LIF hands on of a slot that the station did not drive, by the slot's result. An intact marker in a
roll slot or data phase is two hand-offs at one instant, to the slot's owner as damaged and to SYNC as a marker, which
R150 lets be taken in either order: the owner's first is the model's choice, DESIGN CHOICE (log entry 36). -/
def Slot.handOff (offset : Int) : Slot → Reception → List Instr
  | .marker, .nothing => [.markerSlotEnd]
  | .marker, .damaged => [.markerSlotEnd]
  | .marker, .bytes b => markerHandOff b offset false ++ [.markerSlotEnd]
  | .roll _, .nothing => []
  | .roll k, .damaged => [.rollSlotDamaged k]
  | .roll k, .bytes b =>
    if (parseRollWord b).isSome then [.rollWordReceived k b] else .rollSlotDamaged k :: markerHandOff b offset true
  | .phase _, .nothing => []
  | .phase k, .damaged => [.dataPhaseDamaged k]
  | .phase k, .bytes b =>
    if (parseDataFrame b).isSome then [.dataFrameReceived k b] else .dataPhaseDamaged k :: markerHandOff b offset true

/-- R8, R10, R11, R87: what LIF hands on of a slot that the station drove: the read-back, and an intact marker that is not
what it sent, so another station's, to SYNC. Both are of one instant; the read-back first is the model's choice, DESIGN
CHOICE (log entry 36). -/
def TxRecord.handOff (x : TxRecord) (offset : Int) (r : Reception) : List Instr :=
  x.frame.readBack r :: match r with
    | .nothing => []
    | .damaged => []
    | .bytes b => if b = x.bytes then [] else markerHandOff b offset true

/-- R5, R8, R10, R11: the commands that the line comes to in one slot of a station with slot timing: the slot is found in
the cycle (R7, R15), its one reception in the slot (R5), and the hand-off by who drove it. -/
def slotCommands (slot : Slot) (line : Line) (s : State) : List Instr :=
  let a := slot.begins s.sync.cycleShift
  let b := slot.ends s.sync.cycleShift
  let offset := line.reference a b - Config.referenceOffset
  if s.slotTiming = false then []
  else
    match s.lif.tx with
    | none => slot.handOff offset (line.reception a b)
    | some x =>
      if x.frame.slot s.own = slot then x.handOff offset (line.reception a b)
      else slot.handOff offset (line.reception a b)

/-- R10: the commands that a stretch of the line comes to without slot timing, where no slot bounds it and the receiver
runs: only an intact marker is handed on, without an offset. -/
def untimedCommands (line : List LineBit) (s : State) : List Instr :=
  if s.sync.state.onLine = false ∨ s.slotTiming = true then []
  else
    match receive line with
    | .nothing => []
    | .damaged => []
    | .bytes b => markerHandOff b 0 false

end Sys2Proof.Machine
end

