-- ==== Sys2Proof/Machine/Dispatch.lean ====
section
/-!
DEFINITION. The dispatch: one arm per command, in the order of spec/opcode_table.json.
-/

namespace Sys2Proof.Machine

/-- A command's effect on everything but the queue. -/
def exec (i : Instr) (s : State) : Host.Outcome State Fault Refusal :=
  match i with
  | .powerOnReset => Sys2Proof.Machine.execPowerOnReset s
  | .pinReset => Sys2Proof.Machine.execPinReset s
  | .start straps sdaLow => Sys2Proof.Machine.execStart straps sdaLow s
  | .readAttemptEnd attempt => Sys2Proof.Machine.execReadAttemptEnd attempt s
  | .sclHoldTimeout clocks => Sys2Proof.Machine.execSclHoldTimeout s clocks
  | .retryWaitExpiry sdaLow => Sys2Proof.Machine.execRetryWaitExpiry sdaLow s
  | .transactionBegin sdi => Sys2Proof.Machine.execTransactionBegin s sdi
  | .transactionEnd wholeBytes => Sys2Proof.Machine.execTransactionEnd wholeBytes s
  | .badRequest code args => Sys2Proof.Machine.execBadRequest code args s
  | .status args => Sys2Proof.Machine.execStatus args s
  | .push args => Sys2Proof.Machine.execPush args s
  | .popRx args => Sys2Proof.Machine.execPopRx args s
  | .popRxCommit => Sys2Proof.Machine.execPopRxCommit s
  | .popDone args => Sys2Proof.Machine.execPopDone args s
  | .popDoneCommit => Sys2Proof.Machine.execPopDoneCommit s
  | .claim args => Sys2Proof.Machine.execClaim args s
  | .claimAt args => Sys2Proof.Machine.execClaimAt args s
  | .release args => Sys2Proof.Machine.execRelease args s
  | .releaseAll args => Sys2Proof.Machine.execReleaseAll args s
  | .readTable args => Sys2Proof.Machine.execReadTable args s
  | .readFaults args => Sys2Proof.Machine.execReadFaults args s
  | .clearFaults args => Sys2Proof.Machine.execClearFaults args s
  | .readEvents args => Sys2Proof.Machine.execReadEvents args s
  | .ackEvents args => Sys2Proof.Machine.execAckEvents args s
  | .setEnables args => Sys2Proof.Machine.execSetEnables args s
  | .stagePattern args => Sys2Proof.Machine.execStagePattern args s
  | .applyPattern args => Sys2Proof.Machine.execApplyPattern args s
  | .join args => Sys2Proof.Machine.execJoin args s
  | .withdraw args => Sys2Proof.Machine.execWithdraw args s
  | .softReset args => Sys2Proof.Machine.execSoftReset args s
  | .readConfig args => Sys2Proof.Machine.execReadConfig args s
  | .markerReceived frame offset part together => Sys2Proof.Machine.execMarkerReceived frame offset s part together
  | .markerSlotEnd together => Sys2Proof.Machine.execMarkerSlotEnd s together
  | .rollWordReceived slot frame part together => Sys2Proof.Machine.execRollWordReceived slot frame s part together
  | .rollSlotDamaged slot together => Sys2Proof.Machine.execRollSlotDamaged slot s together
  | .dataFrameReceived phase frame part together => Sys2Proof.Machine.execDataFrameReceived phase frame s part together
  | .dataPhaseDamaged phase together => Sys2Proof.Machine.execDataPhaseDamaged phase s together
  | .ownMarkerReadBack r => Sys2Proof.Machine.execOwnMarkerReadBack r s
  | .ownRollReadBack r => Sys2Proof.Machine.execOwnRollReadBack r s
  | .ownDataReadBack r => Sys2Proof.Machine.execOwnDataReadBack r s
  | .cycleStart => Sys2Proof.Machine.execCycleStart s
  | .ownRollSlot => Sys2Proof.Machine.execOwnRollSlot s
  | .leaveSlotEnd => Sys2Proof.Machine.execLeaveSlotEnd s
  | .rollCallClose => Sys2Proof.Machine.execRollCallClose s
  | .dataPhase phase => Sys2Proof.Machine.execDataPhase phase s
  | .listenTimerExpiry => Sys2Proof.Machine.execListenTimerExpiry s
  | .takeoverTimerExpiry => Sys2Proof.Machine.execTakeoverTimerExpiry s
  | .lineFaultTimerExpiry together => Sys2Proof.Machine.execLineFaultTimerExpiry s together

end Sys2Proof.Machine
end

