-- ==== Sys2Proof/Machine/Step.lean ====
section
/-!
DEFINITION. The step: the command at the front of the queue is taken and carried out with the queue's rest.
-/

namespace Sys2Proof.Machine

/-- R170, R171: one clock of SCK, in which the part samples SDI and shows a bit on SDO (`State.sdoBit`), where the card
controller has a bit to shift in. The eighth bit makes a whole byte; where that byte completes a request, or the reply of
a pop, the command of that row of the table is carried out with it. -/
def clockPort (s : State) : Answer :=
  match s.hp.sdi with
  | [] => .next s
  | v :: rest =>
    let bits := s.hp.bits ++ [v]
    if bits.length < 8 then .next (s.withHp { s.hp with sdi := rest, bits := bits })
    else
      let b := byteOfBits bits
      let s1 := s.withHp { s.hp with sdi := rest, bits := [] }
      match completedBy b s1 with
      | none => .next (shiftByte b s1)
      | some c => exec c (shiftByte b s1)

/-- One step. On an empty queue one clock of SCK passes (`clockPort`), and nothing else: DESIGN CHOICE (log entry 5),
since every other event that time brings about has a row of its own. -/
def step (s : State) : Host.Outcome State Fault Refusal :=
  match s.pending with
  | [] => clockPort s
  | c :: rest => exec c (s.withPending rest)

/-- `s` with the command that the word spells at the front of its queue; no word spells one (Sys2Proof/Decode.lean). -/
def State.withFetchWord (s : State) (nbits w : Nat) : State :=
  match decodeTableWord nbits w with
  | none => s
  | some c => s.withPending (c :: s.pending)

/-- `s` with the request that the card controller's bytes complete, if they do, at the front of its queue (R171). -/
def State.withRequest (s : State) (bytes : List Byte) : State :=
  match requestOf bytes with
  | none => s
  | some c => s.withPending (c :: s.pending)

/-- R5, R8: `s` with the commands at the front of its queue to which the line comes in a slot. -/
def State.withSlot (s : State) (slot : Slot) (line : Line) : State :=
  s.withPending (slotCommands slot line s ++ s.pending)

/-- R10: `s` with the commands at the front of its queue to which a stretch of the line comes without slot timing. -/
def State.withLine (s : State) (line : List LineBit) : State :=
  s.withPending (untimedCommands line s ++ s.pending)

end Sys2Proof.Machine
end

