-- ==== Sys2Proof/Safety.lean ====
section
/-!
DEFINITION. What the statements speak of: the invariants of each block as the spec gives them, the values after a
reset, what each reply carries, and the events that may change a piece of state.
-/

namespace Sys2Proof.Machine

/-! ## Invariants, block by block -/

/-- R97: the four counts of the pool, added up. -/
def State.pool (s : State) : Nat := s.txe.free + s.txe.queued + s.dlt.retry.length + s.dlt.done.length

/-- R131: the retry list holds at most 16 entries, one per destination at most, never a broadcast frame. -/
structure RetryListSound (l : List RetryEntry) : Prop where
  atMost16 : l.length ≤ 16
  onePerDestination : l.Pairwise fun e f => e.frame.dest ≠ f.frame.dest
  noBroadcast : ∀ e ∈ l, e.frame.dest ≠ .broadcast

/-- R126, R128: the receive queue holds at most 32 records; the ack list holds at most one entry per source, never one
for the own address, and each entry carries the sequence on record for its source. -/
structure ReceiveSound (own : Addr) (x : Rxe) : Prop where
  atMost32 : x.queue.length ≤ 32
  onePerSource : x.acks.Pairwise fun p q => p.1 ≠ q.1
  notOwn : ∀ p ∈ x.acks, p.1 ≠ own
  asAccepted : ∀ p ∈ x.acks, x.lastAcc[p.1] = some p.2

/-- R77, R84, R88, R96: the holder flag stands only in ACTIVE with the cycle running and the own address as holder;
the cycle condition, the cycle number and the holder address are there exactly in the timed states; a withdraw waits
only in ACTIVE or RELEARN; the lost count is 0..2, and below 2 while the cycle runs; a start marker is on the line
only while holder; a reception is in progress only where the receiver runs (R10, R13). -/
structure TimingSound (s : State) : Prop where
  holder : s.sync.holder = true →
    s.sync.state = .active ∧ s.sync.cond = .running ∧ s.sync.holderAddr = some s.own ∧ s.sync.holderVacant = false
  cond : s.sync.cond = .none ↔ s.sync.state.timed = false
  number : s.sync.cycleNumber.isSome = s.sync.state.timed
  address : s.sync.holderAddr.isSome = s.sync.state.timed
  withdraw : s.sync.withdrawPending = true → s.sync.state = .active ∨ s.sync.state = .relearn
  lost : s.sync.lost ≤ 2 ∧ (s.sync.cond ≠ .suspended → s.sync.lost ≤ 1)
  marker : ∀ b, s.lif.tx = some { frame := .marker, bytes := b } → s.sync.holder = true
  reception : s.lif.rx ≠ none → s.sync.state.onLine = true

/-- R19, R22, R34: outside the timed states the table is all UNKNOWN; an entry is UNKNOWN exactly while its segment is
not in the segments-known set; the set is full in JOINING and ACTIVE; and the digest is that of the table where no entry
is UNKNOWN and not valid otherwise. -/
structure TableSound (s : State) : Prop where
  untimed : s.sync.state.timed = false → ∀ k : Phase, s.ptu.table[k] = .unknown
  segments : ∀ k : Phase, s.ptu.table[k] = .unknown ↔ s.ptu.known[segmentOf k] = false
  full : s.sync.state = .joining ∨ s.sync.state = .active → ∀ g : Fin 8, s.ptu.known[g] = true
  digest : s.ptu.digest = if fullyKnown s.ptu.table then some (tableDigest s.ptu.table) else none

/-- R49, R53: the degraded flag of an absent address is clear, and a present address's count is 0..7; the absence limit
in force is 2..7. -/
structure PresenceSound (r : Rcm) : Prop where
  degraded : ∀ a : Addr, r.degraded[a] = true → r.presence[a].isSome = true
  counts : ∀ (a : Addr) (n : Nat), r.presence[a] = some n → n ≤ 7
  limit : 2 ≤ r.absenceLimit ∧ r.absenceLimit ≤ 7

/-- R55, R62, R63, R66: outside ACTIVE the claim register is IDLE and no release is held; attempts are 0..4, a COUNT
claim asks for 1..8 phases, and the release list holds at most 8 phases, ascending, none twice. -/
structure ClaimsSound (s : State) : Prop where
  onlyActive : s.sync.state ≠ .active →
    s.cru.claim = none ∧ s.cru.releases = [] ∧ s.cru.releaseAll = false ∧ s.cru.carried = none
  claim : ∀ c, s.cru.claim = some c → 1 ≤ c.requested ∧ c.requested ≤ 8 ∧ c.attempts ≤ 4
  atMost8 : s.cru.releases.length ≤ 8
  sorted : s.cru.releases.Pairwise (· < ·)

/-- R150 to R152: a count is 0..255, and above 0 exactly for a kind that has been seen; the highest severity is none
exactly while the first-fault record is empty. -/
structure FaultsSound (f : Fru) : Prop where
  counts : ∀ k : Fin 19, f.counts[k] ≤ 255
  seen : ∀ k : Fin 19, f.seen[k] = true ↔ 0 < f.counts[k]
  highest : f.highest = .none ↔ f.first = none

/-- R165: every field of the configuration in force is in its range. -/
structure ConfigurationSound (c : Configuration) : Prop where
  absenceLimit : 2 ≤ c.absenceLimit ∧ c.absenceLimit ≤ 7
  retryTimeout : 2 ≤ c.retryTimeout ∧ c.retryTimeout ≤ 15
  retryLimit : c.retryLimit ≤ 7
  quota : 1 ≤ c.quota ∧ c.quota ≤ 96

/-- R166, R168, R169: until START has reached step 7, each of the eight blocks stands at its reset values. -/
def StartSound (s : State) : Prop :=
  s.cfg.step ≠ .done →
    s.lif = Lif.reset ∧ s.sync = Sync.reset ∧ s.ptu = Ptu.reset ∧ s.rcm = Rcm.reset ∧ s.cru = Cru.reset ∧
      s.txe = Txe.reset ∧ s.dlt = Dlt.reset ∧ s.rxe = Rxe.reset

/-! ## Resets and START -/

/-- R13, R34, R54, R76, R96, R116, R130, R147, R168, R185: the values the spec gives every block but FRU after any
reset. -/
structure ResetValues (s : State) : Prop where
  driver : s.lif.tx = none
  reception : s.lif.rx = none
  slots : (∀ k : Addr, s.lif.rollDone[k] = false) ∧ ∀ k : Phase, s.lif.phaseDone[k] = false
  lineFaultTimer : s.lif.lineFaultTimer = .stopped
  state : s.sync.state = .start
  cond : s.sync.cond = .none
  holder : s.sync.holder = false ∧ s.sync.holderAddr = none ∧ s.sync.holderVacant = false
  number : s.sync.cycleNumber = none
  lost : s.sync.lost = 0
  timers : s.sync.takeoverTimer = .stopped ∧ s.sync.listenTimer = .stopped
  withdraw : s.sync.withdrawPending = false
  table : ∀ k : Phase, s.ptu.table[k] = .unknown
  digest : s.ptu.digest = none
  known : ∀ g : Fin 8, s.ptu.known[g] = false
  learnAttempts : s.ptu.learnAttempts = 0
  presence : ∀ a : Addr, s.rcm.presence[a] = none ∧ s.rcm.degraded[a] = false ∧ s.rcm.record[a] = none
  tallies : s.rcm.ownCollisions = 0 ∧ s.rcm.tally = 0 ∧ s.rcm.disagreeing = 0
  membership : s.rcm.lastArrival = none ∧ s.rcm.lastDeparture = none
  claim : s.cru.claim = none ∧ s.cru.lastClaim = none
  releases : s.cru.releases = [] ∧ s.cru.releaseAll = false ∧ s.cru.carried = none ∧ s.cru.lastRelease = none
  buffers : s.txe.free = 48
  queues : s.txe.q0 = [] ∧ s.txe.q1 = [] ∧ s.txe.q2 = [] ∧ s.txe.q3 = []
  pattern : s.txe.applyPending = false ∧ s.txe.pointer = 0
  sequences : (∀ d : Addr, s.txe.nextSeq[d] = 0#8) ∧ s.txe.bcastSeq = 0#8
  conflict : s.txe.conflict = 0 ∧ s.txe.mark = .none
  retry : s.dlt.retry = [] ∧ s.dlt.dueCounter = 0#8 ∧ s.dlt.done = []
  queue : s.rxe.queue = [] ∧ s.rxe.acks = []
  lastAccepted : ∀ a : Addr, s.rxe.lastAcc[a] = none
  configuration : s.cfg.source = none ∧ s.cfg.failure = none ∧ s.cfg.attempts = 0
  port : s.hp.tx = .idle ∧ s.hp.bits = [] ∧ s.hp.request = [] ∧ s.hp.reply = none ∧ s.hp.softReset = false
  events : s.hp.events = 0#9 ∧ s.hp.enables = 0#9

/-- R159: the fault record in its cleared form. -/
def faultsCleared (f : Fru) : Prop :=
  (∀ k : Fin 19, f.seen[k] = false ∧ f.counts[k] = 0) ∧ f.first = none ∧ f.highest = .none

/-- R160 to R167: the state when START ends with this configuration, source and failure reason and auto-join clear,
before any CONFIG_DEFAULTED. -/
def startedWith (c : Configuration) (src : ConfigSource) (why : Option FailReason) (s : State) : State :=
  { s with
    cfg := { s.cfg with config := c, source := some src, failure := why, step := .done }
    sync := { s.sync with state := .offline }
    rcm := { s.rcm with absenceLimit := c.absenceLimit }
    txe := { s.txe with pattern := c.pattern, staged := c.pattern, pointer := 0, applyPending := false }
    fru := { s.fru with mask := c.mask }
    hp := { s.hp with events := 0#9, enables := c.enables } }

/-- R164 step 6: CONFIG_DEFAULTED in the record, with the sync state START and no cycle number, and FAULT pending. -/
def withConfigDefaulted (s : State) : State :=
  { s with
    fru := { s.fru with
      seen := s.fru.seen.set 0 true
      counts := s.fru.counts.set 0 (if s.fru.counts[0] < 255 then s.fru.counts[0] + 1 else s.fru.counts[0])
      first := match s.fru.first with
        | some f => some f
        | none => some { kind := .configDefaulted, cycle := none, state := .start, ctx := .none }
      highest := if s.fru.highest = .none then .advisory else s.fru.highest }
    hp := { s.hp with events := s.hp.events ||| 0x080#9 } }

/-- R194: a class in 4 bits. -/
def Cls.number : Cls → Nat
  | .c0 => 0
  | .c1 => 1
  | .c2 => 2
  | .c3 => 3

/-- R194: bytes 0 to 22 of the configuration record that holds `c`. -/
def recordFront (c : Configuration) : List Nat :=
  [0xC7, 0x2E, 0x01, c.absenceLimit, c.retryTimeout, c.retryLimit, c.quota, if c.autoJoin then 1 else 0,
    c.enables.toNat / 256, c.enables.toNat % 256, c.mask.toNat / 256, c.mask.toNat % 256]
    ++ (List.finRange 8).map (fun i =>
      (c.pattern[2 * i.val]'(by omega)).number * 16 + (c.pattern[2 * i.val + 1]'(by omega)).number)
    ++ [0, 0, 0]

/-- R194: the configuration record that holds `c`, with the check byte that makes the sum 0 mod 256. -/
def recordOf (c : Configuration) : Vector Byte 24 :=
  let front := recordFront c
  tab fun i => byteOf (if i.val < 23 then front.getD i.val 0 else 256 - front.sum % 256)

/-- R162: what follows a read attempt that failed: the 5 ms wait, or after the third attempt the defaults. -/
def afterFailedAttempt (why : FailReason) (s : State) : State :=
  if s.cfg.attempts < 3 then { s with cfg := { s.cfg with step := .waiting } }
  else withConfigDefaulted (startedWith Configuration.defaults .defaultsByFailure (some why) s)

/-! ## Host port -/

/-- R171, R174: the station when a request has been taken and its reply is fixed, and nothing else has changed. -/
def replied (code : Byte) (args : List Byte) (st : Status) (data : List Byte) (s : State) : State :=
  { s with hp := { s.hp with
      bits := []
      tx := .reply
      request := code :: byteOf args.length :: args
      reply := some { status := st, data := data, shifted := 0 } } }

/-- R190: the argument bytes of a request of one of the 20 names. -/
def requestArgs (i : Instr) : List Byte :=
  match i with
  | .status l => l
  | .push l => l
  | .popRx l => l
  | .popDone l => l
  | .claim l => l
  | .claimAt l => l
  | .release l => l
  | .releaseAll l => l
  | .readTable l => l
  | .readFaults l => l
  | .clearFaults l => l
  | .readEvents l => l
  | .ackEvents l => l
  | .setEnables l => l
  | .stagePattern l => l
  | .applyPattern l => l
  | .join l => l
  | .withdraw l => l
  | .softReset l => l
  | .readConfig l => l
  | .powerOnReset => []
  | .pinReset => []
  | .start _ _ => []
  | .readAttemptEnd _ => []
  | .sclHoldTimeout _ => []
  | .retryWaitExpiry _ => []
  | .transactionBegin _ => []
  | .transactionEnd _ => []
  | .badRequest _ _ => []
  | .popRxCommit => []
  | .popDoneCommit => []
  | .markerReceived _ _ _ _ => []
  | .markerSlotEnd _ => []
  | .rollWordReceived _ _ _ _ => []
  | .rollSlotDamaged _ _ => []
  | .dataFrameReceived _ _ _ _ => []
  | .dataPhaseDamaged _ _ => []
  | .ownMarkerReadBack _ => []
  | .ownRollReadBack _ => []
  | .ownDataReadBack _ => []
  | .cycleStart => []
  | .ownRollSlot => []
  | .leaveSlotEnd => []
  | .rollCallClose => []
  | .dataPhase _ => []
  | .listenTimerExpiry => []
  | .takeoverTimerExpiry => []
  | .lineFaultTimerExpiry _ => []

/-- R190: the argument length is the one the table gives for the request. -/
def requestLengthRight (i : Instr) : Prop :=
  match i with
  | .status l => l.length = 0
  | .push l => 5 ≤ l.length ∧ l.length = 5 + (l.getD 4 0#8).toNat
  | .popRx l => l.length = 0
  | .popDone l => l.length = 0
  | .claim l => l.length = 1
  | .claimAt l => l.length = 1
  | .release l => l.length = 1
  | .releaseAll l => l.length = 0
  | .readTable l => l.length = 1
  | .readFaults l => l.length = 0
  | .clearFaults l => l.length = 0
  | .readEvents l => l.length = 0
  | .ackEvents l => l.length = 2
  | .setEnables l => l.length = 2
  | .stagePattern l => l.length = 16
  | .applyPattern l => l.length = 0
  | .join l => l.length = 0
  | .withdraw l => l.length = 0
  | .softReset l => l.length = 0
  | .readConfig l => l.length = 0
  | .powerOnReset => True
  | .pinReset => True
  | .start _ _ => True
  | .readAttemptEnd _ => True
  | .sclHoldTimeout _ => True
  | .retryWaitExpiry _ => True
  | .transactionBegin _ => True
  | .transactionEnd _ => True
  | .badRequest _ _ => True
  | .popRxCommit => True
  | .popDoneCommit => True
  | .markerReceived _ _ _ _ => True
  | .markerSlotEnd _ => True
  | .rollWordReceived _ _ _ _ => True
  | .rollSlotDamaged _ _ => True
  | .dataFrameReceived _ _ _ _ => True
  | .dataPhaseDamaged _ _ => True
  | .ownMarkerReadBack _ => True
  | .ownRollReadBack _ => True
  | .ownDataReadBack _ => True
  | .cycleStart => True
  | .ownRollSlot => True
  | .leaveSlotEnd => True
  | .rollCallClose => True
  | .dataPhase _ => True
  | .listenTimerExpiry => True
  | .takeoverTimerExpiry => True
  | .lineFaultTimerExpiry _ => True

/-! ## Leaving the line and coming to it -/

/-- R13, R31, R54, R93, R96, R122, R129: the station when it has come from OFFLINE or WITHDRAWN to LISTENING. -/
def listeningFrom (s : State) : State :=
  { s with
    lif := { s.lif with lineFaultTimer := .running 0 }
    sync := { Sync.reset with state := .listening, listenTimer := .running 0 }
    ptu := Ptu.reset
    rcm := { Rcm.reset with
      absenceLimit := s.cfg.config.absenceLimit
      lastArrival := s.rcm.lastArrival
      lastDeparture := s.rcm.lastDeparture }
    rxe := { s.rxe with lastAcc := Vector.replicate 32 none, acks := [] }
    hp := { s.hp with events := s.hp.events ||| 0x020#9 } }

/-- R62, R66: CRU when the station leaves ACTIVE; in any other state nothing of it changes. -/
def cruOnLeavingActive (s : State) : Cru :=
  if s.sync.state = .active then
    { claim := none
      lastClaim := match s.cru.claim with
        | none => s.cru.lastClaim
        | some c => some (.aborted, c.granted)
      releases := []
      releaseAll := false
      carried := none
      lastRelease := if s.cru.releases = [] ∧ s.cru.releaseAll = false then s.cru.lastRelease else some .aborted }
  else s.cru

/-- R62, R66, R84: the events that leaving ACTIVE sets pending. -/
def eventsOnLeavingActive (s : State) : BitVec 9 :=
  if s.sync.state = .active then
    (if s.sync.holder = true then 0x040#9 else 0#9)
      ||| (if s.cru.claim = none then 0#9 else 0x004#9)
      ||| (if s.cru.releases = [] ∧ s.cru.releaseAll = false then 0#9 else 0x008#9)
  else 0#9

/-- R12, R13, R34, R54, R62, R66, R95, R115, R116, R122, R129, R145: `t` is `s` after its entry to WITHDRAWN. -/
structure WithdrawnFrom (s t : State) : Prop where
  lif : t.lif = Lif.reset
  sync : t.sync = { Sync.reset with state := .withdrawn, left := some (leftNow s) }
  ptu : t.ptu = { Ptu.reset with learnAttempts := s.ptu.learnAttempts }
  rcm : t.rcm = { Rcm.reset with
    absenceLimit := s.cfg.config.absenceLimit
    lastArrival := s.rcm.lastArrival
    lastDeparture := s.rcm.lastDeparture }
  cru : t.cru = cruOnLeavingActive s
  txe : t.txe = { s.txe with
    q0 := [], q1 := [], q2 := [], q3 := []
    nextSeq := Vector.replicate 32 0#8, conflict := 0, mark := .none }
  dlt : t.dlt = { s.dlt with
    retry := []
    done := s.dlt.done ++ (s.txe.q0 ++ s.txe.q1 ++ s.txe.q2 ++ s.txe.q3 ++ s.dlt.retry.map (·.frame)).map
      fun f => { frame := f, status := .flushed, cycle := none } }
  rxe : t.rxe = { s.rxe with lastAcc := Vector.replicate 32 none, acks := [] }
  fru : t.fru = s.fru
  cfg : t.cfg = s.cfg
  hp : t.hp = { s.hp with
    events := s.hp.events ||| 0x020#9 ||| eventsOnLeavingActive s
      ||| (if s.dlt.done = [] ∧ 0 < s.txe.queued + s.dlt.retry.length then 0x002#9 else 0#9) }
  pending : t.pending = s.pending

/-- R26, R62, R66, R82, R84, R112: `t` is `s`, an ACTIVE station, after its entry to RELEARN. -/
structure RelearningFrom (s t : State) : Prop where
  lif : t.lif = s.lif
  sync : t.sync = { s.sync with state := .relearn, holder := false, lost := if s.sync.holder then 0 else s.sync.lost }
  ptu : t.ptu = { Ptu.reset with learnAttempts := s.ptu.learnAttempts }
  rcm : t.rcm = s.rcm
  cru : t.cru = cruOnLeavingActive s
  txe : t.txe = { s.txe with conflict := 0, mark := .none }
  dlt : t.dlt = s.dlt
  rxe : t.rxe = s.rxe
  fru : t.fru = s.fru
  cfg : t.cfg = s.cfg
  hp : t.hp = { s.hp with events := s.hp.events ||| 0x020#9 ||| eventsOnLeavingActive s }
  pending : t.pending = s.pending

/-! ## The roll-call close -/

/-- R49, R50: the departure that the close decides for address `a`, from the map and the record as it finds them. -/
def departureAt (s : State) (a : Addr) : Option DepartReason :=
  if a = s.own then
    match s.rcm.record[a] with
    | none => none
    | some w => if s.sync.state = .joining ∧ w.join = true ∧ s.rcm.presence[a] ≠ none then some .restarted else none
  else
    match s.rcm.presence[a], s.rcm.record[a] with
    | none, _ => none
    | some n, none => if s.rcm.absenceLimit ≤ n + 1 then some .timeout else none
    | some _, some w => if w.leave then some .left else if w.join then some .restarted else none

/-- R49, R50: the close decides an arrival for address `a`. -/
def arrivalAt (s : State) (a : Addr) : Prop :=
  match s.rcm.record[a] with
  | none => False
  | some w =>
    if a = s.own then s.sync.state = .joining ∧ w.join = true
    else w.join = true ∧ (s.rcm.presence[a] = none ∨ w.leave = false)

/-- R70, R71: the roll word of `a` in the record counts for the table, its sender being present after stage 1. -/
def countedWord (s t : State) (a : Addr) : Option RollWord :=
  if t.rcm.presence[a] = none then none else s.rcm.record[a]

/-- R71: `a` claims phase `k` at this close. -/
def claimsAt (s t : State) (k : Phase) (a : Addr) : Prop :=
  ∃ w, countedWord s t a = some w ∧ finByte k ∈ w.claims

/-! ## Departures, arrivals and the retry list -/

/-- R47: at its adoption of `m` the station counts `a`, another address, as departed. -/
def droppedBy (m : Marker) (s : State) (a : Addr) : Bool :=
  decide (a ≠ s.own ∧ s.rcm.presence[a] ≠ none ∧ m.presence[a] = none)

/-- R47: at its adoption of `m` the station counts `a`, another address, as arrived. -/
def addedBy (m : Marker) (s : State) (a : Addr) : Bool :=
  decide (a ≠ s.own ∧ s.rcm.presence[a] = none ∧ m.presence[a] ≠ none)

/-- `a` is the highest address of which `p` holds. -/
def highest (p : Addr → Bool) (a : Addr) : Prop := p a = true ∧ ∀ b : Addr, a < b → p b = false

/-- R139: the completions of a retry list when the addresses of which `gone` holds depart, in ascending order. -/
def leftCompletions (gone : Addr → Bool) (cycle : Option Half) (l : List RetryEntry) : List DoneRec :=
  ((List.finRange 32).filter gone).flatMap fun a => (l.filter fun e => e.frame.dest = .unicast a).map
    fun e => { frame := e.frame, status := .destLeft, cycle := cycle }

/-- R139: the entries of a retry list whose destination stays. -/
def stayingEntries (gone : Addr → Bool) (l : List RetryEntry) : List RetryEntry :=
  l.filter fun e => match e.frame.dest with
    | .unicast a => !gone a
    | .broadcast => true

/-- R135, R140: the entry is given up at the next aging. -/
def givenUp (c : Configuration) (e : RetryEntry) : Bool :=
  decide (e.closed = true ∨
    (e.due = none ∧ e.age + 1 = c.retryTimeout ∧ 1 + c.retryLimit ≤ e.frame.attempts))

/-- R134: the entry becomes DUE at the next aging. -/
def fallsDue (c : Configuration) (e : RetryEntry) : Bool :=
  decide (e.closed = false ∧ e.due = none ∧ e.age + 1 = c.retryTimeout ∧ e.frame.attempts < 1 + c.retryLimit)

/-- R133, R134: the list after the next aging, where the due-orders start at `n` and go up by 1 in list order. -/
def agedList (c : Configuration) (n : Byte) (l : List RetryEntry) : List RetryEntry :=
  (l.zipIdx.filter fun p => !givenUp c p.1).map fun p =>
    if fallsDue c p.1 then
      { p.1 with age := p.1.age + 1, due := some (n + byteOf ((l.take p.2).countP (fallsDue c))) }
    else if p.1.due = none then { p.1 with age := p.1.age + 1 }
    else p.1

/-- R47, R51, R52: the last records behind the presence adoption of `m`: of the departures and of the arrivals that it
decides, those of the highest address. That it decides them in ascending order is the model's choice, DESIGN CHOICE (log
entry 29); so is that it writes them at the marker of an entry for which R54 has them kept (log entry 37). -/
structure LastRecordsBy (m : Marker) (s t : State) : Prop where
  departure : (∀ a : Addr, highest (droppedBy m s) a →
      t.rcm.lastDeparture = some { addr := a, reason := .marker, cycle := m.number }) ∧
    ((∀ a : Addr, droppedBy m s a = false) → t.rcm.lastDeparture = s.rcm.lastDeparture)
  arrival : (∀ a : Addr, highest (addedBy m s) a → t.rcm.lastArrival = some { addr := a, cycle := m.number }) ∧
    ((∀ a : Addr, addedBy m s a = false) → t.rcm.lastArrival = s.rcm.lastArrival)

/-- R47, R51, R52, R114: what the presence adoption of `m` makes of the peers of `s`, in RCM and TXE: the map, counts and
limit of `m`, the last records (log entry 29), and MEMBERSHIP if any address departed or arrived. -/
structure PeersBy (m : Marker) (s t : State) : Prop where
  presence : t.rcm.presence = m.presence ∧ t.rcm.absenceLimit = m.limit
  degraded : ∀ a : Addr, t.rcm.degraded[a] = (s.rcm.degraded[a] && m.presence[a].isSome)
  sequences : ∀ a : Addr, t.txe.nextSeq[a] = if droppedBy m s a then 0#8 else s.txe.nextSeq[a]
  records : LastRecordsBy m s t
  membership : t.isPending .membership = true ↔ s.isPending .membership = true ∨
    ∃ a : Addr, droppedBy m s a = true ∨ addedBy m s a = true

/-- R47, R122, R129, R139: what that adoption makes of them in RXE and DLT too, at a station that it does not displace:
each departed one FRESH, its ack gone, its retry entry completed DEST_LEFT, and nothing of the others changed. The
completions stand in ascending order of address, DESIGN CHOICE (log entry 29). -/
structure AdoptedBy (m : Marker) (s t : State) : Prop where
  peers : PeersBy m s t
  sources : ∀ a : Addr, t.rxe.lastAcc[a] = if droppedBy m s a then none else s.rxe.lastAcc[a]
  acks : t.rxe.acks = s.rxe.acks.filter fun p => !droppedBy m s p.1
  queue : t.rxe.queue = s.rxe.queue
  entries : t.dlt = { s.dlt with
    retry := stayingEntries (droppedBy m s) s.dlt.retry
    done := s.dlt.done ++ leftCompletions (droppedBy m s) (some m.number) s.dlt.retry }
  doneReady : t.isPending .doneReady = true ↔ s.isPending .doneReady = true ∨
    (s.dlt.done = [] ∧ leftCompletions (droppedBy m s) (some m.number) s.dlt.retry ≠ [])

/-- R82, R83, R122, R129, R140: `t` is `s`, an ACTIVE or RELEARN station, after the marker `m`, without its address, has
displaced it. -/
structure DisplacedBy (m : Marker) (s t : State) : Prop where
  peers : PeersBy m s t
  collisions : t.rcm.ownCollisions = 0
  sources : (∀ a : Addr, t.rxe.lastAcc[a] = none) ∧ t.rxe.acks = [] ∧ t.rxe.queue = s.rxe.queue
  entries : t.dlt.retry = (stayingEntries (droppedBy m s) s.dlt.retry).map fun e => { e with closed := true, due := none }
  completions : t.dlt.done = s.dlt.done ++ leftCompletions (droppedBy m s) (some m.number) s.dlt.retry
  queues : t.txe.q0 = s.txe.q0 ∧ t.txe.q1 = s.txe.q1 ∧ t.txe.q2 = s.txe.q2 ∧ t.txe.q3 = s.txe.q3
  active : s.sync.state = .active → t.cru = cruOnLeavingActive s ∧ t.txe.conflict = 0 ∧ t.txe.mark = .none
  fault : t.fru.seen[FaultKind.displaced.code] = true
  sync : t.sync = { s.sync with
    state := t.sync.state, cond := .running, cycleNumber := some m.number, holderAddr := some m.holder, lost := 0
    holderVacant := false, takeoverTimer := .stopped, listenTimer := .stopped, markerDone := true
    cycleShift := t.sync.cycleShift }
  event : t.isPending .syncState = true

/-- R83, R94, R95, R122, R129, R145: `t` is `s`, an ACTIVE or RELEARN station with a withdraw pending, after the marker
`m`, without its address, has taken it to WITHDRAWN: `n` failed attempts stand, and CRU is that of `c`. -/
structure WithdrawnOnDisplacement (m : Marker) (n : Nat) (c : Cru) (s t : State) : Prop where
  sync : t.sync.state = .withdrawn ∧ t.sync.withdrawPending = false ∧ t.isPending .syncState = true
  fault : t.fru.seen[FaultKind.displaced.code] = true
  lif : t.lif = Lif.reset
  ptu : t.ptu = { Ptu.reset with learnAttempts := n }
  cru : t.cru = c
  peers : t.rcm.presence = Vector.replicate 32 none ∧ LastRecordsBy m s t
  sources : t.rxe.lastAcc = Vector.replicate 32 none ∧ t.rxe.acks = [] ∧ t.rxe.queue = s.rxe.queue
  queues : t.txe.queued = 0 ∧ t.dlt.retry = []

/-- R22, R27, R28: `q` is `p` after the segment of `m`: where each of its bytes is an encoding, its 12 entries take the
values carried and it is known too, and the digest is computed once every segment is; else it writes nothing. -/
structure LearnsSegment (m : Marker) (p q : Ptu) : Prop where
  attempts : q.learnAttempts = p.learnAttempts
  taken : (∀ i : Fin 12, (segmentEntry m.segment[i]).isSome = true) →
    (∀ g : Fin 8, q.known[g] = true ↔ p.known[g] = true ∨ g.val = m.number.toNat % 8) ∧
    (∀ k : Phase, if k.val / 12 = m.number.toNat % 8
      then some q.table[k] = segmentEntry (m.segment[k.val % 12]'(by omega))
      else q.table[k] = p.table[k]) ∧
    ((∀ g : Fin 8, q.known[g] = true) → q.digest = some (crc16 (q.table.toList.map Entry.byte))) ∧
    ((∃ g : Fin 8, q.known[g] = false) → q.digest = p.digest)
  malformed : (∃ i : Fin 12, segmentEntry m.segment[i] = none) → q = p

/-- R26, R27: the table is forgotten and, where every byte of the marker's segment is an encoding, that segment alone is
known. -/
def learnsFirst (m : Marker) (p : Ptu) : Prop :=
  p.digest = none ∧
  ((∀ i : Fin 12, (segmentEntry m.segment[i]).isSome = true) →
    (∀ g : Fin 8, p.known[g] = true ↔ g.val = m.number.toNat % 8) ∧
    ∀ k : Phase, if k.val / 12 = m.number.toNat % 8
      then some p.table[k] = segmentEntry (m.segment[k.val % 12]'(by omega))
      else p.table[k] = .unknown) ∧
  ((∃ i : Fin 12, segmentEntry m.segment[i] = none) →
    (∀ k : Phase, p.table[k] = .unknown) ∧ ∀ g : Fin 8, p.known[g] = false)

/-- R15, R44, R45, R80, R81, R103: `t` is `s` after the marker `m` has restarted its timing, as far as no comparison and
no displacement decides it. -/
structure RestartedBy (m : Marker) (s t : State) : Prop where
  sync : t.sync = { s.sync with
    state := t.sync.state, cond := .running, holder := false, cycleNumber := some m.number, holderAddr := some m.holder
    lost := 0, holderVacant := false, takeoverTimer := .stopped, listenTimer := .stopped, markerDone := true
    leaveSent := false, cycleShift := 0 }
  lif : t.lif = { s.lif with
    tx := none, rollDone := Vector.replicate 32 false, phaseDone := Vector.replicate 96 false }
  peers : PeersBy m s t
  record : (∀ a : Addr, t.rcm.record[a] = none) ∧ t.rcm.tally = 0
  pattern : t.txe.applyPending = false ∧
    (s.txe.applyPending = true → t.txe.pattern = s.txe.staged ∧ t.txe.pointer = 0)
  sources : ∀ a : Addr, t.rxe.lastAcc[a] = if droppedBy m s a then none else s.rxe.lastAcc[a]
  acks : t.rxe.acks = s.rxe.acks.filter fun p => !droppedBy m s p.1
  queue : t.rxe.queue = s.rxe.queue
  cfg : t.cfg = s.cfg

/-! ## Selection in an owned phase -/

/-- R106: the class of the entry that the walk examines `j` entries after the pointer. -/
def classAt (s : State) (j : Fin 16) : Cls := s.txe.pattern[s.txe.pointer + j]

/-- R107: the destination is absent from the presence map. -/
def absentDest (s : State) (f : TxFrame) : Bool :=
  match f.dest with
  | .unicast d => s.rcm.presence[d].isNone
  | .broadcast => false

/-- R107: the heads of a class queue that its examination drops. -/
def droppedHeads (s : State) (c : Cls) : List TxFrame := (s.txe.queue c).takeWhile (absentDest s)

/-- R107: the class queue behind those heads. -/
def liveQueue (s : State) (c : Cls) : List TxFrame := (s.txe.queue c).dropWhile (absentDest s)

/-- R106: the head is eligible. -/
def canSend (s : State) (f : TxFrame) : Bool :=
  match f.dest with
  | .broadcast => true
  | .unicast d => decide (s.rcm.presence[d] ≠ none ∧ s.dlt.retry.length < 16 ∧
      ∀ e ∈ s.dlt.retry, e.frame.dest ≠ .unicast d)

/-- R106: the class has an eligible head once its absent heads are dropped. -/
def servable (s : State) (c : Cls) : Bool :=
  match liveQueue s c with
  | [] => false
  | f :: _ => canSend s f

/-- R106: the classes that the walk has examined up to its entry `n`, each once, in the order of their first
examination. -/
def examined (s : State) (n : Fin 16) : List Cls :=
  (((List.finRange 16).filter fun j => decide (j ≤ n)).map (classAt s)).eraseDups

/-- R107: the completions of the heads that the walk up to its entry `n` drops. -/
def noDestinations (s : State) (n : Fin 16) : List DoneRec :=
  (examined s n).flatMap fun c => (droppedHeads s c).map
    fun f => { frame := f, status := .noDestination, cycle := s.sync.cycleNumber }

/-- R109: the bytes of the data frame that carries `f` from this station with sequence `q`. -/
def dataBytes (s : State) (f : TxFrame) (q : Byte) : List Byte :=
  DataFrame.bytes { source := finByte s.own, dest := f.dest.byte, cls := f.cls.byte, seq := q, payload := f.payload }

/-! ## The line in a slot -/

/-- R5: the first activity of the slot from `a` to `b` begins in bit time `p`: in the slot, where the line was idle until
then; or at most 8 bit times before it, still on the line at `a`, so that a delimiter behind its preamble begins in the
slot. -/
structure ActivityFrom (line : Line) (a b p : Int) : Prop where
  place : a - 8 ≤ p ∧ p < b
  active : line p ≠ .idle
  carried : p ≤ a → line (p - 1) = .idle ∧ ∀ j : Int, p ≤ j → j ≤ a → line j ≠ .idle
  first : ∀ j : Int, a ≤ j → j < p → line j = .idle

/-! ## The read-back of an own data frame -/

/-- R111: the broadcast `f` at the head of its class queue leaves it and completes with this status. -/
structure BroadcastEnds (st : DoneStatus) (c : Cls) (f : TxFrame) (rest : List TxFrame) (s t : State) : Prop where
  queue : t.txe.queue c = rest ∧ ∀ d, d ≠ c → t.txe.queue d = s.txe.queue d
  entries : t.dlt.retry = s.dlt.retry ∧ t.dlt.dueCounter = s.dlt.dueCounter
  completion : t.dlt.done = s.dlt.done ++ [{ frame := f, status := st, cycle := s.sync.cycleNumber }]
  doneReady : t.isPending .doneReady = true ↔ s.isPending .doneReady = true ∨ s.dlt.done = []

/-- R26, R112: `t` is `s`, an ACTIVE station, after the failed read-back of phase `k` that is a SCHEDULE_CONFLICT. -/
structure ConflictFrom (k : Phase) (s t : State) : Prop where
  lif : t.lif = { s.lif with tx := none, phaseDone := s.lif.phaseDone.set k true }
  state : t.sync.state = .relearn ∧ t.isPending .syncState = true
  ptu : t.ptu = s.ptu.forget
  cru : t.cru = cruOnLeavingActive s
  txe : t.txe.conflict = 0 ∧ t.txe.mark = .none
  faults : t.fru.seen[FaultKind.txCollision.code] = true ∧ t.fru.seen[FaultKind.scheduleConflict.code] = true

/-! ## The configuration record and the read transaction -/

/-- R163, R165, R194: every field of the record is in its range. -/
structure RecordInRange (v : Vector Byte 24) : Prop where
  absenceLimit : 2 ≤ v[3].toNat ∧ v[3].toNat ≤ 7
  retryTimeout : 2 ≤ v[4].toNat ∧ v[4].toNat ≤ 15
  retryLimit : v[5].toNat ≤ 7
  quota : 1 ≤ v[6].toNat ∧ v[6].toNat ≤ 96
  autoJoin : v[7].toNat ≤ 1
  enables : v[8].toNat ≤ 1
  mask : v[10].toNat ≤ 127
  pattern : ∀ i : Fin 8, (v[12 + i.val]'(by omega)).toNat / 16 ≤ 3 ∧ (v[12 + i.val]'(by omega)).toNat % 16 ≤ 3
  reserved : v[20] = 0#8 ∧ v[21] = 0#8 ∧ v[22] = 0#8

/-- R162: one byte of the transaction, in the 9 clocks of which CFG leaves CFG_SDA high for a true. -/
def clocks (l : List Bool) : List BusStep := l.map .bit

/-- R162: the clocks of a stretch of the transaction. -/
def clockCount (l : List BusStep) : Nat := l.count (.bit true) + l.count (.bit false)

end Sys2Proof.Machine
end

