-- ==== Sys2Proof/Certificates/Slice0/Obligations.lean ====
section
/-!
DEFINITION. The statements about the machine, one definition each, in the order of the spec's chapters. Every statement
of what a command does answers a next state and gives all of it, or names the parts it gives.
-/

section Statements

open Sys2Proof Sys2Proof.Machine

/-! ## The queue -/

/-- Tier 1, the host's interface: a step takes the command at the front of the queue and is `exec` of it on the state
with the queue's rest. On an empty queue one clock of SCK passes and nothing else, which is the model's choice (log
entry 5), and without a bit to shift in the state stands. R170, R171: a clock brings one bit; the eighth makes a byte of
which the first is the most significant. In REQUEST the byte joins the request, and the byte that completes it runs the
request's command; in REPLY one more byte of the reply is out, and with its last one the port is in TRAILING, by
the model's choice of the clock (log entry 14). R174: that last byte of an OK reply to a pop runs the command that
commits it. -/
def Obligations.StepRunsTheFrontCommand : Prop :=
  (∀ (c : Instr) (rest : List Instr) (s : State), s.pending = c :: rest → step s = exec c { s with pending := rest }) ∧
  (∀ s : State, s.pending = [] → s.hp.sdi = [] → step s = .next s) ∧
  (∀ (v : Bool) (rest : List Bool) (s : State), s.pending = [] → s.hp.sdi = v :: rest → s.hp.bits.length < 7 →
    step s = .next { s with hp := { s.hp with sdi := rest, bits := s.hp.bits ++ [v] } }) ∧
  ∀ (v : Bool) (rest : List Bool) (b : Byte) (s u : State), s.pending = [] → s.hp.sdi = v :: rest →
    s.hp.bits.length = 7 → (∀ i : Fin 8, (s.hp.bits ++ [v])[i.val]? = some (b.getLsbD (7 - i.val))) →
    u = { s with hp := { s.hp with sdi := rest, bits := [] } } →
    (s.hp.tx = .request →
      (requestOf (s.hp.request ++ [b]) = none →
        step s = .next { u with hp := { u.hp with request := s.hp.request ++ [b] } }) ∧
      ∀ c, requestOf (s.hp.request ++ [b]) = some c →
        step s = exec c { u with hp := { u.hp with request := s.hp.request ++ [b] } }) ∧
    (∀ r, s.hp.tx = .reply → s.hp.reply = some r →
      (r.shifted < 1 + r.data.length →
        step s = .next { u with hp := { u.hp with reply := some { r with shifted := r.shifted + 1 } } }) ∧
      (1 + r.data.length ≤ r.shifted →
        (r.status = .ok → s.hp.request.head? = some 0x03#8 → step s = exec .popRxCommit u) ∧
        (r.status = .ok → s.hp.request.head? = some 0x04#8 → step s = exec .popDoneCommit u) ∧
        (r.status ≠ .ok ∨ (s.hp.request.head? ≠ some 0x03#8 ∧ s.hp.request.head? ≠ some 0x04#8) → step s =
          .next { u with hp := { u.hp with tx := .trailing, reply := some { r with shifted := 2 + r.data.length } } }))) ∧
    (s.hp.tx = .idle ∨ s.hp.tx = .trailing → step s = .next u)

/-- Every command answers a next state in every state, and leaves the waiting commands as they stand. Chapter 95 (what
each step holds) gives each command an effect in every state, the empty effect among them. Where the rules do not let
the command arise, that the state stands is the model's choice (log entry 2). -/
def Obligations.EveryCommandAnswersAndLeavesTheQueue : Prop :=
  ∀ (c : Instr) (s : State), ∃ t, exec c s = .next t ∧ t.pending = s.pending

/-! ## Resets and START (chapter Start-up and Configuration) -/

/-- R168 with R13, R34, R54, R76, R96, R116, R130, R147, R159, R185: what a power-on reset leaves, the fault record
cleared. R159, R168, R175: a pin reset, and a soft reset at the rising edge of CS_N, leave the same values but keep
the seen flags, counts, first fault and highest severity; that the mask stands with them until START sets it is the
model's choice (log entry 7). After the soft reset START begins at once. R175: SOFT_RESET answers OK and is held until
CS_N rises; nothing else changes before. -/
def Obligations.ResetsLeaveTheResetValues : Prop :=
  (∀ s : State, ∃ t, exec .powerOnReset s = .next t ∧ ResetValues t ∧ faultsCleared t.fru ∧ t.cfg.step = .held ∧
    t.hp.csLow = s.hp.csLow ∧ t.pending = s.pending) ∧
  ((∀ s : State, ∃ t, exec .pinReset s = .next t ∧ ResetValues t ∧ t.fru = s.fru ∧ t.cfg.step = .held ∧
    t.hp.csLow = s.hp.csLow ∧ t.pending = s.pending) ∧
  ∀ (s : State) (n : Nat), s.hp.csLow = true → s.hp.softReset = true →
    ∃ t, exec (.transactionEnd n) s = .next t ∧ ResetValues t ∧ t.fru = s.fru ∧ t.cfg.step = .sampling ∧
      t.hp.csLow = false ∧ t.pending = s.pending) ∧
  (∀ s : State, s.hp.tx = .request → s.sync.state ≠ .start → ∃ t, exec (.softReset []) s = .next t ∧
    t = replied 0x13#8 [] .ok [] { s with hp := { s.hp with softReset := true } } ∧
    ∃ u, exec (.transactionEnd 0) { t with hp := { t.hp with csLow := true } } = .next u ∧ ResetValues u ∧
      u.fru = s.fru)

/-- R161, R164 to R167: START with the strap CFG_SRC low puts the default configuration in force, samples the straps,
records nothing and ends in OFFLINE; where no reset waits for START, nothing changes. R162: START with CFG_SRC high,
and the end of the 5 ms wait, begin a read attempt with the bus check, one pulse of CFG_SCL for each time CFG_SDA is
found low: a CFG_SDA that is high within 9 pulses lets the read begin; one still low after the ninth fails the attempt
with BUS_FAULT, both pins released. Where the rules do not let the command arise, that the state stands is the model's
choice (log entry 2). -/
def Obligations.StartTakesTheDefaultsOrBeginsToRead : Prop :=
  ((∀ (straps : Straps) (n : Nat) (s : State), s.cfg.step = .held ∨ s.cfg.step = .sampling → straps.cfgSrc = false →
    exec (.start straps n) s = .next
      (startedWith Configuration.defaults .defaultsByStrap none { s with cfg := { s.cfg with straps := straps } })) ∧
  ∀ (straps : Straps) (n : Nat) (s : State), s.cfg.step ≠ .held → s.cfg.step ≠ .sampling →
    exec (.start straps n) s = .next s) ∧
  ((∀ (straps : Straps) (n : Nat) (s : State), StartSound s → s.cfg.step = .held ∨ s.cfg.step = .sampling →
    straps.cfgSrc = true →
    (n ≤ 9 → exec (.start straps n) s = .next { s with cfg := { s.cfg with
      straps := straps, attempts := s.cfg.attempts + 1, step := .reading, sclPulses := n
      bus := List.replicate n .pulse } }) ∧
    (9 < n → exec (.start straps n) s = .next (afterFailedAttempt .busFault { s with cfg := { s.cfg with
      straps := straps, attempts := s.cfg.attempts + 1, step := .reading, sclPulses := 9
      bus := List.replicate 9 .pulse ++ [.release] } }))) ∧
  (∀ (n : Nat) (s : State), StartSound s → s.cfg.step = .waiting →
    (n ≤ 9 → exec (.retryWaitExpiry n) s = .next { s with cfg := { s.cfg with
      attempts := s.cfg.attempts + 1, step := .reading, sclPulses := n, bus := List.replicate n .pulse } }) ∧
    (9 < n → exec (.retryWaitExpiry n) s = .next (afterFailedAttempt .busFault { s with cfg := { s.cfg with
      attempts := s.cfg.attempts + 1, step := .reading, sclPulses := 9
      bus := List.replicate 9 .pulse ++ [.release] } }))) ∧
  ∀ (n : Nat) (s : State), s.cfg.step ≠ .waiting → exec (.retryWaitExpiry n) s = .next s)

/-- R162 to R167: the end of a read attempt. 24 bytes that validate put the record in force, with auto-join on to
LISTENING; bytes that do not put the defaults in force with the reason, and CONFIG_DEFAULTED is recorded; an attempt
the memory did not acknowledge, or in which it held CFG_SCL low, fails. R162: what CFG has driven on its pins by then:
the start condition, the device address 1010000b with write, 00h, a repeated start, the device address with read, 24
bytes of which it acknowledges the first 23, the stop condition; up to the byte that the memory did not acknowledge,
with a stop condition; or up to the clock that the memory held, both pins then released. That the clock held is one of
a byte, never a pulse of the bus check nor the rise of CFG_SCL in a repeated start or a stop condition, is the model's
choice (log entry 34). Where the rules do not
let the command arise, that the state stands is the model's choice (log entry 2). -/
def Obligations.ReadAttemptEndsInAConfigurationOrAFailure : Prop :=
  (∀ (r : ReadAttempt) (s u : State), StartSound s → s.cfg.step = .reading →
    u = { s with cfg := { s.cfg with bus := s.cfg.bus ++ readTransaction r.ackWrite r.ackAddress r.ackRead } } →
    (r.ackWrite = true ∧ r.ackAddress = true ∧ r.ackRead = true →
      (∀ c, validateRecord r.data = .ok c → exec (.readAttemptEnd r) s = .next
        (if c.autoJoin then listeningFrom (startedWith c .record none u) else startedWith c .record none u)) ∧
      (∀ why, validateRecord r.data = .error why → exec (.readAttemptEnd r) s = .next
        (withConfigDefaulted (startedWith Configuration.defaults .defaultsByFailure (some why) u)))) ∧
    (¬(r.ackWrite = true ∧ r.ackAddress = true ∧ r.ackRead = true) →
      exec (.readAttemptEnd r) s = .next (afterFailedAttempt .noResponse u))) ∧
  (∀ (n : Nat) (s : State), StartSound s → s.cfg.step = .reading →
    ∃ done rest : List BusStep, done ++ rest = readTransaction true true true ∧ clockCount done = min n 243 ∧
      (rest = [] ∨ ∃ v, rest.head? = some (.bit v)) ∧
      exec (.sclHoldTimeout n) s = .next (afterFailedAttempt .busFault
        { s with cfg := { s.cfg with bus := s.cfg.bus ++ done ++ [.release] } })) ∧
  (∀ (n : Nat) (r : ReadAttempt) (s : State), s.cfg.step ≠ .reading →
    exec (.readAttemptEnd r) s = .next s ∧ exec (.sclHoldTimeout n) s = .next s) ∧
  (∀ a r : Bool, readTransaction false a r =
    [.startCondition] ++ clocks [true, false, true, false, false, false, false, false, true] ++ [.stopCondition]) ∧
  (∀ r : Bool, readTransaction true false r =
    [.startCondition] ++ clocks [true, false, true, false, false, false, false, false, true] ++
      clocks (List.replicate 8 false ++ [true]) ++ [.stopCondition]) ∧
  ∀ r : Bool, readTransaction true true r =
    [.startCondition] ++ clocks [true, false, true, false, false, false, false, false, true] ++
      clocks (List.replicate 8 false ++ [true]) ++
      [.repeatedStart] ++ clocks [true, false, true, false, false, false, false, true, true] ++
      (if r then clocks ((List.replicate 23 (List.replicate 8 true ++ [false])).flatten ++ List.replicate 9 true)
      else []) ++ [.stopCondition]

/-- R163, R165, R194: the record that holds a configuration in its ranges reads back as that configuration. R163: a
record with another signature is refused with SIGNATURE; else one with another version with VERSION; else one with a
field out of its range with RANGE; else one whose 24 bytes do not add up to 0 mod 256 with CHECK; every other record is
that of the configuration it is read as. -/
def Obligations.ConfigurationRecordRoundTrip : Prop :=
  (∀ c : Configuration, ConfigurationSound c → validateRecord (recordOf c) = .ok c) ∧
  ∀ v : Vector Byte 24,
    (¬(v[0] = 0xC7#8 ∧ v[1] = 0x2E#8) → validateRecord v = .error .signature) ∧
    (v[0] = 0xC7#8 ∧ v[1] = 0x2E#8 →
      (v[2] ≠ 0x01#8 → validateRecord v = .error .version) ∧
      (v[2] = 0x01#8 →
        (¬RecordInRange v → validateRecord v = .error .range) ∧
        (RecordInRange v →
          ((v.toList.map BitVec.toNat).sum % 256 ≠ 0 → validateRecord v = .error .check) ∧
          ((v.toList.map BitVec.toNat).sum % 256 = 0 →
            ∃ c, validateRecord v = .ok c ∧ ConfigurationSound c ∧ recordOf c = v))))

/-! ## Faults and transactions -/

/-- R148, R149, R190, R191: the mask bits, severities and event bits the tables give. R149 to R153: a recording sets
the kind's seen flag and counts it, up to 255; an unmasked one also fills an empty first-fault record, raises the
highest severity and sets FAULT pending; nothing else changes. -/
def Obligations.ARecordingCountsAndKeepsTheFirst : Prop :=
  ((∀ k : FaultKind, k.severity = .advisory ↔ k.code.val ≤ 11) ∧
  (∀ k : FaultKind, k.severity = .fatal ↔ 15 ≤ k.code.val) ∧
  (∀ m : BitVec 15, ∀ k : FaultKind, k.severity = .fatal → masked m k = false) ∧
  (∀ (m : BitVec 15) (k : FaultKind), masked m k = m.getLsbD k.code.val) ∧
  [Event.rxReady, .doneReady, .claimEnd, .releaseEnd, .membership, .syncState, .holder, .fault, .patternApplied].map
    Event.bit = [0x001#9, 0x002#9, 0x004#9, 0x008#9, 0x010#9, 0x020#9, 0x040#9, 0x080#9, 0x100#9]) ∧
  (∀ (k : FaultKind) (ctx : FaultCtx) (s : State), FaultsSound s.fru →
    ∃ f : Fru, recordFault k ctx s = { s with
        fru := f
        hp := { s.hp with events := if masked s.fru.mask k then s.hp.events else s.hp.events ||| 0x080#9 } } ∧
      f.seen[k.code] = true ∧ f.counts[k.code] = min 255 (s.fru.counts[k.code] + 1) ∧ f.mask = s.fru.mask ∧
      (∀ j : Fin 19, j ≠ k.code → f.seen[j] = s.fru.seen[j] ∧ f.counts[j] = s.fru.counts[j]) ∧
      (masked s.fru.mask k = true → f.first = s.fru.first ∧ f.highest = s.fru.highest) ∧
      (masked s.fru.mask k = false →
        f.first = some (s.fru.first.getD
          { kind := k, cycle := s.sync.cycleNumber, state := s.sync.state, ctx := ctx }) ∧
        f.highest.rank = max s.fru.highest.rank k.severity.rank))

/-- R171, R176: CS_N falls. While a reset lasts the port ignores it, and its level alone changes; where CS_N is low
already nothing happens. R171, R173: CS_N rises without an accepted soft reset: the port is IDLE, and a request of
which at least one whole byte came and which was not complete records HOST_PROTOCOL, outside START and OFFLINE. R170,
R171, R176, R190: SDO is high-impedance while CS_N is high, in IDLE and while a reset lasts; else it shows the status
code, the reply length and the data, byte by byte, in REPLY, and 00h in REQUEST and TRAILING; of each byte one bit in
each clock of SCK, the most significant first, beside the bit of SDI's byte that comes in. What SDI carries is an
operand of the falling edge (log entry 6). Where the rules do not let the command arise, that the state stands is the
model's choice (log entry 2). -/
def Obligations.TransactionsBeginAndEnd : Prop :=
  ((∀ (l : List Bool) (s : State), s.hp.csLow = false → s.cfg.step ≠ .held → exec (.transactionBegin l) s = .next
    { s with hp := { s.hp with csLow := true, sdi := l, bits := [], tx := .request, request := [], reply := none } }) ∧
  (∀ (l : List Bool) (s : State), s.hp.csLow = false → s.cfg.step = .held → exec (.transactionBegin l) s =
    .next { s with hp := { s.hp with csLow := true } }) ∧
  ∀ (l : List Bool) (s : State), s.hp.csLow = true → exec (.transactionBegin l) s = .next s) ∧
  ((∀ (s u : State) (n : Nat), s.hp.csLow = true → s.hp.softReset = false →
    u = { s with hp := { s.hp with csLow := false, sdi := [], bits := [], tx := .idle, request := [], reply := none } } →
    exec (.transactionEnd n) s = .next
      (if s.hp.tx = .request ∧ 1 ≤ s.hp.request.length + n ∧ s.sync.state ≠ .start ∧ s.sync.state ≠ .offline then
        recordFault .hostProtocol .none u
      else u)) ∧
  ∀ (s : State) (n : Nat), s.hp.csLow = false → exec (.transactionEnd n) s = .next s) ∧
  ((∀ s : State, s.hp.csLow = false ∨ s.hp.tx = .idle ∨ s.cfg.step = .held →
    s.sdoHighZ = true ∧ s.sdoByte = none) ∧
  (∀ s : State, s.hp.csLow = true → s.cfg.step ≠ .held → s.hp.tx = .request ∨ s.hp.tx = .trailing →
    s.sdoHighZ = false ∧ s.sdoByte = some 0x00#8) ∧
  ∀ (s : State) (r : Reply), s.hp.csLow = true → s.cfg.step ≠ .held → s.hp.tx = .reply → s.hp.reply = some r →
    s.sdoHighZ = false ∧
    (r.shifted = 0 → s.sdoByte = some r.status.byte) ∧ (r.shifted = 1 → s.sdoByte = some (byteOf r.data.length)) ∧
    ∀ (i : Nat) (h : i < r.data.length), r.shifted = 2 + i → s.sdoByte = some r.data[i]) ∧
  (∀ (b : Byte) (j : Nat) (s : State), s.sdoByte = some b → s.hp.bits.length = j → j < 8 →
    s.sdoBit = some (b.getLsbD (7 - j))) ∧
  ∀ s : State, s.sdoByte = none → s.sdoBit = none

/-! ## Requests (chapter Host Port) -/

/-- R160, R172: in START every request but STATUS is answered STARTING, whatever its arguments, and changes nothing.
R172, R190: an argument length that is not the one of the request is answered BAD_ARG and changes nothing. R171, R172:
a code that names none of the 20 requests is answered BAD_REQUEST in every state and changes nothing. Outside REQUEST
no request is taken, and a BAD_REQUEST whose code names a request is none: there nothing changes (log entries 6 and
26). R171, R172, R190: the bytes shifted in pick the command: its code, its argument length and its arguments, whatever
follows them; a code that names no request is a BAD_REQUEST; fewer bytes are no request yet. -/
def Obligations.RequestsAreCheckedInOrder : Prop :=
  (∀ (i : Instr) (code : Byte) (s : State), i.requestCode = some code → code ≠ 0x01#8 → s.hp.tx = .request →
    s.sync.state = .start → exec i s = .next (replied code (requestArgs i) .starting [] s)) ∧
  (∀ (i : Instr) (code : Byte) (s : State), i.requestCode = some code → s.hp.tx = .request →
    s.sync.state ≠ .start ∨ code = 0x01#8 → ¬requestLengthRight i →
    exec i s = .next (replied code (requestArgs i) .badArg [] s)) ∧
  ((∀ (code : Byte) (args : List Byte) (s : State), s.hp.tx = .request → ¬(0x01#8 ≤ code ∧ code ≤ 0x14#8) →
    exec (.badRequest code args) s = .next (replied code args .badRequest [] s)) ∧
  (∀ (code : Byte) (args : List Byte) (s : State), 0x01#8 ≤ code ∧ code ≤ 0x14#8 →
    exec (.badRequest code args) s = .next s) ∧
  (∀ (code : Byte) (args : List Byte) (s : State), s.hp.tx ≠ .request → exec (.badRequest code args) s = .next s) ∧
  ∀ (i : Instr) (code : Byte) (s : State), i.requestCode = some code → s.hp.tx ≠ .request → exec i s = .next s) ∧
  ((∀ (i : Instr) (code : Byte) (more : List Byte), i.requestCode = some code → (requestArgs i).length ≤ 255 →
    requestOf (code :: byteOf (requestArgs i).length :: (requestArgs i ++ more)) = some i) ∧
  (∀ (code : Byte) (args more : List Byte), ¬(0x01#8 ≤ code ∧ code ≤ 0x14#8) → args.length ≤ 255 →
    requestOf (code :: byteOf args.length :: (args ++ more)) = some (.badRequest code args)) ∧
  ∀ b : List Byte, b.length < 2 ∨ b.length < 2 + (b.getD 1 0#8).toNat → requestOf b = none)

/-- R177, R191, R192: STATUS is answered in every state, with 63 data bytes; each item at its offset. -/
def Obligations.StatusReplyLayout : Prop :=
  ∀ s : State, s.hp.tx = .request → ∃ d : List Byte, d.length = 63 ∧
    exec (.status []) s = .next (replied 0x01#8 [] .ok d s) ∧
    d.take 4 = [s.sync.state.byte, s.sync.cond.byte, flagByte s.sync.holder, byteOrFF finByte s.sync.holderAddr] ∧
    (d.drop 4).take 4 = cycleBytes s.sync.cycleNumber ++ [flagByte s.sync.withdrawPending] ∧
    (∀ a : Addr, (d.getD (8 + a.val / 8) 0#8).getLsbD (7 - a.val % 8) = s.rcm.presence[a].isSome) ∧
    (∀ a : Addr, (d.getD (12 + a.val / 8) 0#8).getLsbD (7 - a.val % 8) = s.rcm.degraded[a]) ∧
    (s.rcm.lastArrival = none → (d.drop 16).take 3 = [0xFF#8, 0#8, 0#8]) ∧
    (∀ r, s.rcm.lastArrival = some r → (d.drop 16).take 3 = finByte r.addr :: halfBytes r.cycle) ∧
    (s.rcm.lastDeparture = none → (d.drop 19).take 4 = [0xFF#8, 0xFF#8, 0#8, 0#8]) ∧
    (∀ r, s.rcm.lastDeparture = some r →
      (d.drop 19).take 4 = [finByte r.addr, r.reason.byte] ++ halfBytes r.cycle) ∧
    (d.drop 23).take 2 = [byteOf s.rcm.disagreeing, byteOf (s.ptu.table.toList.count (.owned s.own))] ∧
    (s.cru.claim = none → (d.drop 25).take 14 = [0#8, 0xFF#8, 0#8, 0xFF#8, 0#8] ++ phaseList [] ++ [0#8]) ∧
    (∀ c, s.cru.claim = some c → c.kind = .count → (d.drop 25).take 14 =
      [1#8, 0#8, byteOf c.requested, 0xFF#8, byteOf c.granted.length] ++ phaseList c.granted ++ [byteOf c.attempts]) ∧
    (∀ c p, s.cru.claim = some c → c.kind = .at p → (d.drop 25).take 14 =
      [1#8, 1#8, byteOf c.requested, finByte p, byteOf c.granted.length] ++ phaseList c.granted ++
        [byteOf c.attempts]) ∧
    (s.cru.lastClaim = none → (d.drop 39).take 10 = [0xFF#8, 0#8] ++ phaseList []) ∧
    (∀ o l, s.cru.lastClaim = some (o, l) → (d.drop 39).take 10 = [o.byte, byteOf l.length] ++ phaseList l) ∧
    (d.drop 49).take 3 = [byteOf s.cru.releases.length, flagByte s.cru.releaseAll,
      byteOrFF ReleaseOutcome.byte s.cru.lastRelease] ∧
    (d.drop 52).take 8 = [byteOf s.txe.free, byteOf s.txe.queued, byteOf s.dlt.retry.length, byteOf s.dlt.done.length,
      byteOf s.txe.q0.length, byteOf s.txe.q1.length, byteOf s.txe.q2.length, byteOf s.txe.q3.length] ∧
    d.drop 60 = [flagByte s.txe.applyPending, byteOf s.rxe.queue.length, byteOf s.fru.highest.rank]

/-- R25, R178, R193: READ_TABLE of a segment 0..7 answers its 12 entry bytes, the digest with its validity, the
segments-known set and the learn-attempt count; of any other number, BAD_ARG. R179, R193: READ_CONFIG answers the
configuration in force, the straps of the last START, the source and the failure reason, and changes nothing. R154,
R178, R193: READ_FAULTS answers, for each kind in code order, its seen flag and its count, then the first-fault
record, the highest severity and the mask, and changes nothing. R158: CLEAR_FAULTS clears every seen flag and count,
the first-fault record and the highest severity; the mask and everything else stand, a pending FAULT among them. -/
def Obligations.ReadingRequests : Prop :=
  (∀ (b : Byte) (s : State), s.hp.tx = .request → s.sync.state ≠ .start →
    (∀ h : b.toNat < 8, ∃ d : List Byte, d.length = 17 ∧
      exec (.readTable [b]) s = .next (replied 0x09#8 [b] .ok d s) ∧
      (∀ i : Fin 12, d.getD i.val 0#8 = (s.ptu.table[12 * b.toNat + i.val]'(by omega)).byte) ∧
      (d.drop 12).take 3 = (match s.ptu.digest with
        | none => [0xFF#8, 0xFF#8, 0#8]
        | some v => halfBytes v ++ [1#8]) ∧
      (∀ g : Fin 8, (d.getD 15 0#8).getLsbD (7 - g.val) = s.ptu.known[g]) ∧
      d.drop 16 = [byteOf s.ptu.learnAttempts]) ∧
    (8 ≤ b.toNat → exec (.readTable [b]) s = .next (replied 0x09#8 [b] .badArg [] s))) ∧
  (∀ s : State, s.hp.tx = .request → s.sync.state ≠ .start → ∃ d : List Byte, d.length = 30 ∧
    exec (.readConfig []) s = .next (replied 0x14#8 [] .ok d s) ∧
    d.take 5 = [byteOf s.cfg.config.absenceLimit, byteOf s.cfg.config.retryTimeout, byteOf s.cfg.config.retryLimit,
      byteOf s.cfg.config.quota, flagByte s.cfg.config.autoJoin] ∧
    (d.drop 5).take 4 =
      halfBytes (s.cfg.config.enables.setWidth 16) ++ halfBytes (s.cfg.config.mask.setWidth 16) ∧
    (∀ i : Fin 16, d.getD (9 + i.val) 0#8 = s.cfg.config.pattern[i].byte) ∧
    d.drop 25 = [finByte s.cfg.straps.addr, flagByte s.cfg.straps.rate, flagByte s.cfg.straps.cfgSrc,
      byteOrFF ConfigSource.byte s.cfg.source, byteOrFF FailReason.byte s.cfg.failure]) ∧
  (∀ s : State, s.hp.tx = .request → s.sync.state ≠ .start → ∃ d : List Byte, d.length = 50 ∧
    exec (.readFaults []) s = .next (replied 0x0A#8 [] .ok d s) ∧
    (∀ k : Fin 19, d.getD (2 * k.val) 0#8 = flagByte s.fru.seen[k] ∧
      d.getD (2 * k.val + 1) 0#8 = byteOf s.fru.counts[k]) ∧
    (s.fru.first = none → (d.drop 38).take 9 =
      [0xFF#8, 0#8, 0#8, 0#8, 0xFF#8, 0xFF#8, 0xFF#8, 0xFF#8, 0xFF#8]) ∧
    (∀ f, s.fru.first = some f → (d.drop 38).take 9 =
      [finByte f.kind.code] ++ cycleBytes f.cycle ++ [f.state.byte] ++ (match f.ctx with
        | .none => [0xFF#8, 0xFF#8, 0xFF#8, 0xFF#8]
        | .frame src dst cls seq => [src, dst, cls, seq]
        | .sender a => [finByte a, 0xFF#8, 0xFF#8, 0xFF#8]
        | .phase k => [finByte k, 0xFF#8, 0xFF#8, 0xFF#8])) ∧
    d.drop 47 = [byteOf s.fru.highest.rank] ++ halfBytes (s.fru.mask.setWidth 16)) ∧
  (∀ s : State, s.hp.tx = .request → s.sync.state ≠ .start → ∃ f : Fru, faultsCleared f ∧ f.mask = s.fru.mask ∧
    exec (.clearFaults []) s = .next { replied 0x0B#8 [] .ok [] s with fru := f })

/-- R181 to R183, R190: READ_EVENTS answers the pending set and the enables; ACK_EVENTS clears the named flags,
answers those left and clears no other; SET_ENABLES replaces all nine enables. A set with a bit 9 to 15 is BAD_ARG.
ATTN_N is low exactly while some event is pending and enabled. -/
def Obligations.EventRequests : Prop :=
  (∀ s : State, s.hp.tx = .request → s.sync.state ≠ .start → exec (.readEvents []) s = .next
    (replied 0x0C#8 [] .ok (halfBytes (s.hp.events.setWidth 16) ++ halfBytes (s.hp.enables.setWidth 16)) s)) ∧
  (∀ (hi lo : Byte) (s : State), s.hp.tx = .request → s.sync.state ≠ .start → hi ≤ 1#8 →
    ∃ left : BitVec 9, (∀ i : Nat, i < 9 → left.getLsbD i = (s.hp.events.getLsbD i && !(hi ++ lo).getLsbD i)) ∧
      exec (.ackEvents [hi, lo]) s = .next
        (replied 0x0D#8 [hi, lo] .ok (halfBytes (left.setWidth 16)) { s with hp := { s.hp with events := left } })) ∧
  (∀ (hi lo : Byte) (s : State), s.hp.tx = .request → s.sync.state ≠ .start → hi ≤ 1#8 →
    ∃ on : BitVec 9, (∀ i : Nat, i < 9 → on.getLsbD i = (hi ++ lo).getLsbD i) ∧
      exec (.setEnables [hi, lo]) s = .next
        (replied 0x0E#8 [hi, lo] .ok [] { s with hp := { s.hp with enables := on } })) ∧
  (∀ (hi lo : Byte) (s : State), s.hp.tx = .request → s.sync.state ≠ .start → 1#8 < hi →
    exec (.ackEvents [hi, lo]) s = .next (replied 0x0D#8 [hi, lo] .badArg [] s) ∧
    exec (.setEnables [hi, lo]) s = .next (replied 0x0E#8 [hi, lo] .badArg [] s)) ∧
  ∀ s : State, s.attnLow = true ↔ ∃ i : Fin 9, s.hp.events.getLsbD i = true ∧ s.hp.enables.getLsbD i = true

/-- R97 to R99: PUSH with a class or destination out of range, the own address as destination, or a length above 60 or
not a multiple of 4 is BAD_ARG; with no FREE buffer POOL_EMPTY; else a FREE buffer becomes QUEUED with this frame at
the tail of its class queue. -/
def Obligations.PushQueuesAFrame : Prop :=
  ∀ (dest cls hi lo len : Byte) (payload : List Byte) (s : State), payload.length = len.toNat → s.hp.tx = .request →
    s.sync.state ≠ .start →
    (4#8 ≤ cls ∨ (32#8 ≤ dest ∧ dest ≠ 63#8) ∨ dest = finByte s.own ∨ 60#8 < len ∨ len.toNat % 4 ≠ 0 →
      exec (.push ([dest, cls, hi, lo, len] ++ payload)) s =
        .next (replied 0x02#8 ([dest, cls, hi, lo, len] ++ payload) .badArg [] s)) ∧
    (∀ c d, clsOf cls = some c → destOf dest = some d → dest ≠ finByte s.own → len ≤ 60#8 → len.toNat % 4 = 0 →
      (s.txe.free = 0 → exec (.push ([dest, cls, hi, lo, len] ++ payload)) s =
        .next (replied 0x02#8 ([dest, cls, hi, lo, len] ++ payload) .poolEmpty [] s)) ∧
      (s.txe.free ≠ 0 → ∃ q : Txe, exec (.push ([dest, cls, hi, lo, len] ++ payload)) s =
          .next { replied 0x02#8 ([dest, cls, hi, lo, len] ++ payload) .ok [] s with txe := q } ∧
        q.queue c = s.txe.queue c ++
          [{ dest := d, cls := c, tag := hi ++ lo, payload := payload, seq := none, attempts := 0 }] ∧
        (∀ c', c' ≠ c → q.queue c' = s.txe.queue c') ∧ q.free = s.txe.free - 1 ∧ q.pattern = s.txe.pattern ∧
        q.staged = s.txe.staged ∧ q.applyPending = s.txe.applyPending ∧ q.pointer = s.txe.pointer ∧
        q.nextSeq = s.txe.nextSeq ∧ q.bcastSeq = s.txe.bcastSeq ∧ q.conflict = s.txe.conflict ∧
        q.mark = s.txe.mark))

/-- R126, R127, R174, R193: POP_RX answers the head record of the receive queue, or EMPTY; only when its last reply
byte has been shifted out does the head leave. R100, R143, R144, R174, R193: POP_DONE answers the completion record of
the head buffer, or EMPTY; only when its last reply byte has been shifted out does that buffer leave the list and
become FREE. R171: that a commit shifts out all of the reply that is left, from any count, and puts the port in TRAILING,
and does so for a reply that is not OK and then removes nothing, is the model's choice (log entry 14). Where the rules do
not let the command arise, that the state stands is the model's choice (log entry 2). -/
def Obligations.PopsAnswerThenCommit : Prop :=
  ((∀ s : State, s.hp.tx = .request → s.sync.state ≠ .start → s.rxe.queue = [] →
    exec (.popRx []) s = .next (replied 0x03#8 [] .empty [] s)) ∧
  (∀ (r : RxRecord) (rest : List RxRecord) (s : State), s.hp.tx = .request → s.sync.state ≠ .start →
    s.rxe.queue = r :: rest → exec (.popRx []) s = .next (replied 0x03#8 [] .ok
      ([finByte r.source, r.dest.byte, r.cls.byte, r.seq, byteOf r.payload.length] ++ halfBytes r.cycle ++
        [finByte r.phase] ++ r.payload) s)) ∧
  (∀ (v : Reply) (s : State), s.hp.tx = .reply → s.hp.request.head? = some 0x03#8 → s.hp.reply = some v →
    exec .popRxCommit s = .next { s with
      rxe := if v.status = .ok then { s.rxe with queue := s.rxe.queue.drop 1 } else s.rxe
      hp := { s.hp with bits := [], tx := .trailing, reply := some { v with shifted := 2 + v.data.length } } }) ∧
  ∀ s : State, s.hp.tx ≠ .reply ∨ s.hp.request.head? ≠ some 0x03#8 ∨ s.hp.reply = none →
    exec .popRxCommit s = .next s) ∧
  ((∀ s : State, s.hp.tx = .request → s.sync.state ≠ .start → s.dlt.done = [] →
    exec (.popDone []) s = .next (replied 0x04#8 [] .empty [] s)) ∧
  (∀ (r : DoneRec) (rest : List DoneRec) (s : State), s.hp.tx = .request → s.sync.state ≠ .start →
    s.dlt.done = r :: rest → exec (.popDone []) s = .next (replied 0x04#8 [] .ok
      (halfBytes r.frame.tag ++ [r.status.byte, r.frame.dest.byte, r.frame.cls.byte, byteOf r.frame.attempts] ++
        cycleBytes r.cycle) s)) ∧
  (∀ (v : Reply) (r : DoneRec) (rest : List DoneRec) (s : State), s.hp.tx = .reply →
    s.hp.request.head? = some 0x04#8 → s.hp.reply = some v → s.dlt.done = r :: rest →
    exec .popDoneCommit s = .next { s with
      dlt := if v.status = .ok then { s.dlt with done := rest } else s.dlt
      txe := if v.status = .ok then { s.txe with free := s.txe.free + 1 } else s.txe
      hp := { s.hp with bits := [], tx := .trailing, reply := some { v with shifted := 2 + v.data.length } } }) ∧
  (∀ (v : Reply) (s : State), s.hp.tx = .reply → s.hp.request.head? = some 0x04#8 → s.hp.reply = some v →
    s.dlt.done = [] → exec .popDoneCommit s = .next { s with
      hp := { s.hp with bits := [], tx := .trailing, reply := some { v with shifted := 2 + v.data.length } } }) ∧
  ∀ s : State, s.hp.tx ≠ .reply ∨ s.hp.request.head? ≠ some 0x04#8 ∨ s.hp.reply = none →
    exec .popDoneCommit s = .next s)

/-- R55, R56: CLAIM n, checked in order: ACTIVE, n in 1..8, the register IDLE, the quota; else the register becomes
PENDING. R64: RELEASE_ALL is NOT_ACTIVE outside ACTIVE; in ACTIVE it sets the flag and leaves the release list. -/
def Obligations.ClaimAndReleaseAll : Prop :=
  (∀ (n : Byte) (s : State), s.hp.tx = .request → s.sync.state ≠ .start → exec (.claim [n]) s = .next
    (if s.sync.state ≠ .active then replied 0x05#8 [n] .notActive [] s
    else if n.toNat = 0 ∨ 8 < n.toNat then replied 0x05#8 [n] .badArg [] s
    else if s.cru.claim ≠ none then replied 0x05#8 [n] .busy [] s
    else if s.cfg.config.quota < s.ptu.table.toList.count (.owned s.own) + n.toNat then
      replied 0x05#8 [n] .quota [] s
    else { replied 0x05#8 [n] .ok [] s with cru := { s.cru with
      claim := some { kind := .count, requested := n.toNat, granted := [], attempts := 0 }, lastClaim := none } })) ∧
  (∀ s : State, s.hp.tx = .request →
    (s.sync.state ≠ .start → s.sync.state ≠ .active →
      exec (.releaseAll []) s = .next (replied 0x08#8 [] .notActive [] s)) ∧
    (s.sync.state = .active → exec (.releaseAll []) s =
      .next { replied 0x08#8 [] .ok [] s with cru := { s.cru with releaseAll := true } }))

/-- R57: CLAIM_AT p, row by row of the rule's table, in its order. -/
def Obligations.ClaimAtIsCheckedInOrder : Prop :=
  (∀ (b : Byte) (s : State), s.hp.tx = .request → s.sync.state = .start →
    exec (.claimAt [b]) s = .next (replied 0x06#8 [b] .starting [] s)) ∧
  (∀ (b : Byte) (s : State), s.hp.tx = .request → s.sync.state ≠ .start → s.sync.state ≠ .active →
    exec (.claimAt [b]) s = .next (replied 0x06#8 [b] .notActive [] s)) ∧
  (∀ (b : Byte) (s : State), s.hp.tx = .request → s.sync.state = .active → 96 ≤ b.toNat →
    exec (.claimAt [b]) s = .next (replied 0x06#8 [b] .badArg [] s)) ∧
  ∀ (p : Phase) (s : State), s.hp.tx = .request → s.sync.state = .active → exec (.claimAt [finByte p]) s = .next
    (if s.ptu.table[p] ≠ .vacant then replied 0x06#8 [finByte p] .notVacant [] s
    else if s.cru.claim ≠ none then replied 0x06#8 [finByte p] .busy [] s
    else if s.cfg.config.quota < s.ptu.table.toList.count (.owned s.own) + 1 then
      replied 0x06#8 [finByte p] .quota [] s
    else { replied 0x06#8 [finByte p] .ok [] s with cru := { s.cru with
      claim := some { kind := .at p, requested := 1, granted := [], attempts := 0 }, lastClaim := none } })

/-- R63: RELEASE p, row by row of the rule's table, in its order; the list stays ascending. -/
def Obligations.ReleaseIsCheckedInOrder : Prop :=
  (∀ (b : Byte) (s : State), s.hp.tx = .request → s.sync.state = .start →
    exec (.release [b]) s = .next (replied 0x07#8 [b] .starting [] s)) ∧
  (∀ (b : Byte) (s : State), s.hp.tx = .request → s.sync.state ≠ .start → s.sync.state ≠ .active →
    exec (.release [b]) s = .next (replied 0x07#8 [b] .notActive [] s)) ∧
  (∀ (b : Byte) (s : State), s.hp.tx = .request → s.sync.state = .active → 96 ≤ b.toNat →
    exec (.release [b]) s = .next (replied 0x07#8 [b] .badArg [] s)) ∧
  ∀ (p : Phase) (s : State), s.hp.tx = .request → s.sync.state = .active →
    (s.ptu.table[p] ≠ .owned s.own → exec (.release [finByte p]) s =
      .next (replied 0x07#8 [finByte p] .notOwner [] s)) ∧
    (s.ptu.table[p] = .owned s.own → p ∈ s.cru.releases → exec (.release [finByte p]) s =
      .next (replied 0x07#8 [finByte p] .ok [] s)) ∧
    (s.ptu.table[p] = .owned s.own → p ∉ s.cru.releases → 8 ≤ s.cru.releases.length → exec (.release [finByte p]) s =
      .next (replied 0x07#8 [finByte p] .busy [] s)) ∧
    (s.ptu.table[p] = .owned s.own → p ∉ s.cru.releases → s.cru.releases.length < 8 →
      s.cru.releases.Pairwise (· < ·) → ∃ below above : List Phase, s.cru.releases = below ++ above ∧
        (∀ q ∈ below, q < p) ∧ (∀ q ∈ above, p < q) ∧ exec (.release [finByte p]) s =
          .next { replied 0x07#8 [finByte p] .ok [] s with cru := { s.cru with releases := below ++ p :: above } })

/-- R102, R103: STAGE_PATTERN replaces all 16 staged classes unless one is out of range (BAD_ARG) or the apply-pending
flag is set (BUSY); APPLY_PATTERN sets that flag. -/
def Obligations.PatternRequests : Prop :=
  (∀ (args : List Byte) (s : State), args.length = 16 → s.hp.tx = .request → s.sync.state ≠ .start →
    ((∃ b ∈ args, 3#8 < b) → exec (.stagePattern args) s = .next (replied 0x0F#8 args .badArg [] s)) ∧
    ((∀ b ∈ args, b ≤ 3#8) → s.txe.applyPending = true →
      exec (.stagePattern args) s = .next (replied 0x0F#8 args .busy [] s)) ∧
    ((∀ b ∈ args, b ≤ 3#8) → s.txe.applyPending = false → ∃ p : Vector Cls 16, p.toList.map Cls.byte = args ∧
      exec (.stagePattern args) s =
        .next { replied 0x0F#8 args .ok [] s with txe := { s.txe with staged := p } })) ∧
  ∀ s : State, s.hp.tx = .request → s.sync.state ≠ .start → exec (.applyPattern []) s =
    .next { replied 0x10#8 [] .ok [] s with txe := { s.txe with applyPending := true } }

/-- R93: JOIN takes OFFLINE or WITHDRAWN to LISTENING, with the listen timer and the line-fault timer started; in the
states on the line it is answered STATE. R94, R95: WITHDRAW waits for a LEAVE in ACTIVE and RELEARN, is BUSY in
JOINING and STATE in OFFLINE and WITHDRAWN, and withdraws at once in LISTENING and LEARNING. -/
def Obligations.JoinAndWithdraw : Prop :=
  (∀ s : State, s.hp.tx = .request →
    (s.sync.state = .offline ∨ s.sync.state = .withdrawn →
      exec (.join []) s = .next (replied 0x11#8 [] .ok [] (listeningFrom s))) ∧
    (s.sync.state.onLine = true → exec (.join []) s = .next (replied 0x11#8 [] .state [] s))) ∧
  (∀ s : State, s.hp.tx = .request →
    (s.sync.state = .active ∨ s.sync.state = .relearn → exec (.withdraw []) s =
      .next { replied 0x12#8 [] .ok [] s with sync := { s.sync with withdrawPending := true } }) ∧
    (s.sync.state = .joining → exec (.withdraw []) s = .next (replied 0x12#8 [] .busy [] s)) ∧
    (s.sync.state = .offline ∨ s.sync.state = .withdrawn →
      exec (.withdraw []) s = .next (replied 0x12#8 [] .state [] s)) ∧
    (s.sync.state = .listening ∨ s.sync.state = .learning → ∃ t, WithdrawnFrom s t ∧
      exec (.withdraw []) s = .next (replied 0x12#8 [] .ok [] t)))

/-! ## Markers (chapter Synchronization and the Timing Holder) -/

/-- R10, R80, R87: markers that change nothing: in a state without a receiver; in a timed state with the cycle running
and a marker out of the window or a second one in the cycle; and, at a holder, one of a holder with a higher address.
Bytes that are no intact marker change nothing in any state. R80: a marker with the own address as holder, in a state
on the line, records ADDRESS_IN_USE and withdraws the station. -/
def Obligations.MarkersDisregardedOrFatal : Prop :=
  ((∀ (b : List Byte) (o : Int) (s : State), parseMarker b = none → exec (.markerReceived b o) s = .next s) ∧
  (∀ (b : List Byte) (o : Int) (s : State), s.sync.state.onLine = false → exec (.markerReceived b o) s = .next s) ∧
  (∀ (b : List Byte) (o : Int) (m : Marker) (s : State), parseMarker b = some m → m.holder ≠ s.own →
    s.sync.state.timed = true → s.sync.holder = false → s.sync.cond = .running ∨ s.sync.cond = .flywheel →
    o < -16 ∨ 16 < o ∨ s.sync.markerDone = true → exec (.markerReceived b o) s = .next s) ∧
  ∀ (b : List Byte) (o : Int) (m : Marker) (s : State), parseMarker b = some m → s.own < m.holder →
    s.sync.state = .active → s.sync.holder = true → exec (.markerReceived b o) s = .next s) ∧
  (∀ (b : List Byte) (o : Int) (m : Marker) (s : State), parseMarker b = some m → m.holder = s.own →
    s.sync.state.onLine = true → ∃ t, exec (.markerReceived b o) s = .next t ∧
      WithdrawnFrom (recordFault .addressInUse (.sender s.own) s) t)

/-- R15, R47, R81: a marker in the window at an ACTIVE station that is not holder, with the station's own digest and
the same addresses present. SYNC takes its number, holder and offset, RCM its counts and limit; nothing else changes.
R47, R51, R52, R81, R114, R122, R129, R139: presence adoption at a JOINING station, at an ACTIVE one that agrees and
stays, and at a learning one that has not all segments. It takes the marker's map, counts and limit; each other address
that the map drops has departed with reason MARKER, its entry in the table standing, FRESH, its next sequence 0, its ack
gone, its retry entry completed DEST_LEFT; each other address that it adds has arrived; MEMBERSHIP is set pending exactly
if some other address departed or arrived. The order within one adoption, which fixes the records and the completions,
is ascending by the model's choice (log entry 29). -/
def Obligations.MarkersInTheWindow : Prop :=
  (∀ (b : List Byte) (o : Int) (m : Marker) (s : State), parseMarker b = some m → m.holder ≠ s.own →
    s.sync.state = .active → s.sync.holder = false → s.sync.cond = .running ∨ s.sync.cond = .flywheel →
    s.sync.markerDone = false → -16 ≤ o → o ≤ 16 → s.ptu.digest = some m.digest →
    (∀ a : Addr, m.presence[a].isSome = s.rcm.presence[a].isSome) → s.rcm.presence[s.own].isSome = true →
    (∀ a : Addr, s.rcm.degraded[a] = true → s.rcm.presence[a].isSome = true) →
    exec (.markerReceived b o) s = .next { s with
      sync := { s.sync with
        cycleNumber := some m.number, holderAddr := some m.holder, holderVacant := false, lost := 0, cond := .running
        takeoverTimer := .stopped, listenTimer := .stopped, markerDone := true, cycleShift := o }
      rcm := { s.rcm with presence := m.presence, absenceLimit := m.limit } }) ∧
  ∀ (b : List Byte) (o : Int) (m : Marker) (s : State), parseMarker b = some m → m.holder ≠ s.own →
    s.sync.holder = false → s.sync.cond = .running ∨ s.sync.cond = .flywheel → s.sync.markerDone = false → -16 ≤ o →
    o ≤ 16 → RetryListSound s.dlt.retry →
    s.sync.state = .joining ∨
      (s.sync.state = .active ∧ s.ptu.digest = some m.digest ∧ m.presence[s.own].isSome = true) ∨
      ((s.sync.state = .learning ∨ (s.sync.state = .relearn ∧ m.presence[s.own].isSome = true)) ∧
        ∃ g : Fin 8, s.ptu.known[g] = false) →
    ∃ t, exec (.markerReceived b o) s = .next t ∧ AdoptedBy m s t ∧
      t.sync = { s.sync with
        cycleNumber := some m.number, holderAddr := some m.holder, holderVacant := false, lost := 0, cond := .running
        takeoverTimer := .stopped, listenTimer := .stopped, markerDone := true, cycleShift := o } ∧
      (s.sync.state = .joining ∨ s.sync.state = .active → t.ptu = s.ptu) ∧ t.rcm.record = s.rcm.record ∧
      t.rcm.tally = s.rcm.tally ∧ t.rcm.disagreeing = s.rcm.disagreeing ∧
      t.rcm.ownCollisions = s.rcm.ownCollisions ∧ t.txe = { s.txe with nextSeq := t.txe.nextSeq } ∧ t.cru = s.cru ∧
      t.fru = s.fru ∧ t.cfg = s.cfg ∧ t.lif = s.lif ∧
      ∀ e : Event, e ≠ .membership → e ≠ .doneReady → t.isPending e = s.isPending e

/-- R81, R82, R155: a marker whose digest is not the own one, at an ACTIVE station that is not holder: DIVERGED is
recorded and the station relearns its table, beginning with the marker's segment. R22, R27: in LEARNING and RELEARN with
a segment still unknown, a marker in the window brings its segment, and the last one the digest; a malformed one writes
nothing. R29, R30: with all eight segments known, a marker in the window ends learning: an equal digest takes LEARNING to
JOINING and RELEARN to ACTIVE; another one counts a failed attempt and forgets the table; in LEARNING whether or not the
marker's map holds the own address (R47, R83). The third failure, whatever the map, records SCHEDULE_UNSTABLE and
withdraws the station, with no presence adopted. R83, R122, R129, R140, R157: a marker without the own address displaces
an ACTIVE or RELEARN station, with DISPLACED recorded, every source FRESH and every retry entry closed: to JOINING from
ACTIVE, its digest the marker's, the table kept, and from a RELEARN that this marker ends; to LEARNING from RELEARN,
entered now by DIVERGED or held before; and each of them to WITHDRAWN with a withdraw pending. Model's choices: that the
last arrival and last departure records and the order of the DEST_LEFT completions follow the addresses of one presence
adoption in ascending order is log entry 29; that the adoption writes those records at a displacement, for which R54 has
them kept, is log entry 37; that in ACTIVE an own digest that is not valid compares as FFFFh is log
entry 18. -/
def Obligations.TheDigestDecides : Prop :=
  (∀ (b : List Byte) (o : Int) (m : Marker) (s : State), parseMarker b = some m → m.holder ≠ s.own →
    s.sync.state = .active → s.sync.holder = false → s.sync.cond = .running ∨ s.sync.cond = .flywheel →
    s.sync.markerDone = false → -16 ≤ o → o ≤ 16 → s.ptu.digest.getD 0xFFFF#16 ≠ m.digest →
    m.presence[s.own].isSome = true → ∃ t, exec (.markerReceived b o) s = .next t ∧
      t.sync.state = .relearn ∧ t.sync.cycleNumber = some m.number ∧ t.cru = cruOnLeavingActive s ∧
      t.fru.seen[FaultKind.diverged.code] = true ∧ t.ptu.digest = none ∧
      (∀ k : Phase, k.val / 12 ≠ m.number.toNat % 8 → t.ptu.table[k] = .unknown) ∧
      (∀ k : Phase, k.val / 12 = m.number.toNat % 8 → (∀ i : Fin 12, (segmentEntry m.segment[i]).isSome = true) →
        some t.ptu.table[k] = segmentEntry (m.segment[k.val % 12]'(by omega))) ∧
      t.isPending .syncState = true ∧ PeersBy m s t ∧ (RetryListSound s.dlt.retry → AdoptedBy m s t)) ∧
  (∀ (b : List Byte) (o : Int) (m : Marker) (s : State), parseMarker b = some m → m.holder ≠ s.own →
    s.sync.state = .learning ∨ (s.sync.state = .relearn ∧ m.presence[s.own].isSome = true) → s.sync.holder = false →
    s.sync.cond = .running ∨ s.sync.cond = .flywheel → s.sync.markerDone = false → -16 ≤ o → o ≤ 16 →
    (∃ g : Fin 8, s.ptu.known[g] = false) → ∃ t, exec (.markerReceived b o) s = .next t ∧
      t.sync.state = s.sync.state ∧ t.sync.cycleNumber = some m.number ∧ LearnsSegment m s.ptu t.ptu ∧ PeersBy m s t ∧
      t.fru = s.fru ∧ t.cru = s.cru ∧ t.isPending .syncState = s.isPending .syncState) ∧
  (∀ (b : List Byte) (o : Int) (m : Marker) (s : State), parseMarker b = some m → m.holder ≠ s.own →
    s.sync.state = .learning ∨ (s.sync.state = .relearn ∧ m.presence[s.own].isSome = true) → s.sync.holder = false →
    s.sync.cond = .running ∨ s.sync.cond = .flywheel → s.sync.markerDone = false → -16 ≤ o → o ≤ 16 →
    (∀ g : Fin 8, s.ptu.known[g] = true) →
    (s.ptu.digest = some m.digest → ∃ t, exec (.markerReceived b o) s = .next t ∧
      t.sync.state = (if s.sync.state = .learning then .joining else .active) ∧
      t.ptu = { s.ptu with learnAttempts := 0 } ∧ t.fru = s.fru ∧ t.isPending .syncState = true ∧ PeersBy m s t ∧
      (RetryListSound s.dlt.retry → AdoptedBy m s t)) ∧
    (s.ptu.digest ≠ some m.digest → s.ptu.digest.isSome = true → s.ptu.learnAttempts < 2 →
      ∃ t, exec (.markerReceived b o) s = .next t ∧ t.sync.state = s.sync.state ∧
        t.ptu.learnAttempts = s.ptu.learnAttempts + 1 ∧ learnsFirst m t.ptu ∧ t.fru = s.fru ∧ PeersBy m s t ∧
        (RetryListSound s.dlt.retry → AdoptedBy m s t))) ∧
  (∀ (b : List Byte) (o : Int) (m : Marker) (s : State), parseMarker b = some m → m.holder ≠ s.own →
    s.sync.state = .learning ∨ s.sync.state = .relearn → s.sync.holder = false →
    s.sync.cond = .running ∨ s.sync.cond = .flywheel → s.sync.markerDone = false → -16 ≤ o → o ≤ 16 →
    (∀ g : Fin 8, s.ptu.known[g] = true) → s.ptu.digest.isSome = true → s.ptu.digest ≠ some m.digest →
    s.ptu.learnAttempts = 2 → ∃ t, exec (.markerReceived b o) s = .next t ∧
      t.sync.state = .withdrawn ∧ t.fru.seen[FaultKind.scheduleUnstable.code] = true ∧ t.ptu.learnAttempts = 3 ∧
      WithdrawnFrom (recordFault .scheduleUnstable .none { s with
        sync := { s.sync with
          cond := .running, cycleNumber := some m.number, holderAddr := some m.holder, lost := 0, markerDone := true }
        ptu := { s.ptu with learnAttempts := 3 } }) t) ∧
  (∀ (b : List Byte) (o : Int) (m : Marker) (s : State), parseMarker b = some m → m.holder ≠ s.own →
    m.presence[s.own] = none → s.sync.holder = false → s.sync.cond = .running ∨ s.sync.cond = .flywheel →
    s.sync.markerDone = false → -16 ≤ o → o ≤ 16 → RetryListSound s.dlt.retry → s.sync.withdrawPending = false →
    (s.sync.state = .active → s.ptu.digest.getD 0xFFFF#16 = m.digest → ∃ t, exec (.markerReceived b o) s = .next t ∧
      t.sync.state = .joining ∧ DisplacedBy m s t ∧ t.ptu = s.ptu) ∧
    (s.sync.state = .active → s.ptu.digest.getD 0xFFFF#16 ≠ m.digest → ∃ t, exec (.markerReceived b o) s = .next t ∧
      t.sync.state = .learning ∧ DisplacedBy m s t ∧ learnsFirst m t.ptu ∧
      t.ptu.learnAttempts = s.ptu.learnAttempts ∧ t.fru.seen[FaultKind.diverged.code] = true ∧
      (s.fru.first = none → masked s.fru.mask .diverged = false → t.fru.first =
        some { kind := .diverged, cycle := some m.number, state := .active, ctx := .none })) ∧
    (s.sync.state = .relearn → (∃ g : Fin 8, s.ptu.known[g] = false) → ∃ t, exec (.markerReceived b o) s = .next t ∧
      t.sync.state = .learning ∧ DisplacedBy m s t ∧ learnsFirst m t.ptu ∧
      t.ptu.learnAttempts = s.ptu.learnAttempts) ∧
    (s.sync.state = .relearn → (∀ g : Fin 8, s.ptu.known[g] = true) → s.ptu.digest = some m.digest →
      ∃ t, exec (.markerReceived b o) s = .next t ∧ t.sync.state = .joining ∧ DisplacedBy m s t ∧
      t.ptu = { s.ptu with learnAttempts := 0 }) ∧
    (s.sync.state = .relearn → (∀ g : Fin 8, s.ptu.known[g] = true) → s.ptu.digest.isSome = true →
      s.ptu.digest ≠ some m.digest → s.ptu.learnAttempts < 2 → ∃ t, exec (.markerReceived b o) s = .next t ∧
      t.sync.state = .learning ∧ DisplacedBy m s t ∧ learnsFirst m t.ptu ∧
      t.ptu.learnAttempts = s.ptu.learnAttempts + 1)) ∧
  (∀ (b : List Byte) (o : Int) (m : Marker) (s : State), parseMarker b = some m → m.holder ≠ s.own →
    m.presence[s.own] = none → s.sync.holder = false → s.sync.cond = .running ∨ s.sync.cond = .flywheel →
    s.sync.markerDone = false → -16 ≤ o → o ≤ 16 → s.sync.withdrawPending = true →
    (s.sync.state = .active ∨ (s.sync.state = .relearn ∧ ∃ g : Fin 8, s.ptu.known[g] = false) →
      ∃ t, exec (.markerReceived b o) s = .next t ∧
        WithdrawnOnDisplacement m s.ptu.learnAttempts (cruOnLeavingActive s) s t) ∧
    (s.sync.state = .relearn → (∀ g : Fin 8, s.ptu.known[g] = true) → s.ptu.digest = some m.digest →
      ∃ t, exec (.markerReceived b o) s = .next t ∧
        WithdrawnOnDisplacement m 0 (cruOnLeavingActive { s with sync := { s.sync with state := .active } }) s t) ∧
    (s.sync.state = .relearn → (∀ g : Fin 8, s.ptu.known[g] = true) → s.ptu.digest.isSome = true →
      s.ptu.digest ≠ some m.digest → s.ptu.learnAttempts < 2 → ∃ t, exec (.markerReceived b o) s = .next t ∧
        WithdrawnOnDisplacement m (s.ptu.learnAttempts + 1) s.cru s t))

/-- R26, R27, R80, R81, R92: a marker at a LISTENING station starts cycle timing and learning: LEARNING, the number
and holder of the marker, and a table of which the marker's segment alone is known. R15, R44, R45, R80 to R82, R103,
R112: a marker anywhere restarts the timing of a suspended LEARNING or JOINING station, and of a RELEARN or ACTIVE one
whose address its map holds: its number and holder, an empty roll-call record, nothing on the line, and the work of R81
as in the window. R84, R87: the marker of a holder with a lower address makes a holder yield in the same way, with HOLDER
pending. R47, R51, R52, R122, R129: the marker's presence is adopted each time. Model's choices: that the last arrival
and last departure records are those of the highest address of one adoption, taken in ascending order, is log entry 29;
that the first marker's adoption writes them, and sets MEMBERSHIP pending, where R54 has them kept, is log entry 37;
that in ACTIVE an own digest that is not valid compares as FFFFh is log entry 18. -/
def Obligations.FirstMarkerStartsLearning : Prop :=
  (∀ (b : List Byte) (o : Int) (m : Marker) (s : State), parseMarker b = some m → m.holder ≠ s.own →
    s.sync.state = .listening → ∃ t, exec (.markerReceived b o) s = .next t ∧
      t.sync.state = .learning ∧ t.sync.cond = .running ∧ t.sync.cycleNumber = some m.number ∧
      t.sync.holderAddr = some m.holder ∧ t.sync.lost = 0 ∧ t.sync.listenTimer = .stopped ∧
      t.sync.takeoverTimer = .stopped ∧ t.ptu.digest = none ∧ PeersBy m s t ∧ t.cru = s.cru ∧
      t.fru = s.fru ∧ t.cfg = s.cfg ∧ t.isPending .syncState = true ∧
      ((∀ i : Fin 12, (segmentEntry m.segment[i]).isSome = true) →
        (∀ g : Fin 8, t.ptu.known[g] = true ↔ g.val = m.number.toNat % 8) ∧
        ∀ k : Phase, if k.val / 12 = m.number.toNat % 8
          then some t.ptu.table[k] = segmentEntry (m.segment[k.val % 12]'(by omega))
          else t.ptu.table[k] = .unknown) ∧
      ((∃ i : Fin 12, segmentEntry m.segment[i] = none) → t.ptu = s.ptu.forget)) ∧
  (∀ (b : List Byte) (o : Int) (m : Marker) (s : State), parseMarker b = some m → m.holder ≠ s.own →
    s.sync.state = .learning ∨ (s.sync.state = .relearn ∧ m.presence[s.own].isSome = true) →
    s.sync.cond = .suspended → s.sync.holder = false → s.ptu = s.ptu.forget →
    ∃ t, exec (.markerReceived b o) s = .next t ∧ RestartedBy m s t ∧ t.sync.state = s.sync.state ∧
      learnsFirst m t.ptu ∧ t.ptu.learnAttempts = s.ptu.learnAttempts ∧ t.cru = s.cru ∧ t.fru = s.fru) ∧
  (∀ (b : List Byte) (o : Int) (m : Marker) (s : State), parseMarker b = some m → m.holder ≠ s.own →
    s.sync.state = .joining → s.sync.cond = .suspended → s.sync.holder = false →
    ∃ t, exec (.markerReceived b o) s = .next t ∧ RestartedBy m s t ∧ t.sync.state = .joining ∧ t.ptu = s.ptu ∧
      t.cru = s.cru ∧ t.fru = s.fru) ∧
  (∀ (b : List Byte) (o : Int) (m : Marker) (s : State), parseMarker b = some m → m.holder ≠ s.own →
    s.sync.state = .active → m.presence[s.own].isSome = true →
    s.sync.cond = .suspended ∧ s.sync.holder = false ∨ s.sync.holder = true ∧ m.holder < s.own →
    ∃ t, exec (.markerReceived b o) s = .next t ∧ RestartedBy m s t ∧
      (s.sync.holder = true → t.isPending .holder = true) ∧
      (s.ptu.digest.getD 0xFFFF#16 = m.digest → t.sync.state = .active ∧ t.ptu = s.ptu ∧ t.cru = s.cru ∧
        t.txe.mark = .none ∧ t.txe.conflict = (match s.txe.mark with
          | .none => s.txe.conflict
          | .clean => 0
          | .failed => s.txe.conflict + 1) ∧
        (s.dlt.retry = [] → t.fru = s.fru)) ∧
      (s.ptu.digest.getD 0xFFFF#16 ≠ m.digest → t.sync.state = .relearn ∧ learnsFirst m t.ptu ∧
        t.cru = cruOnLeavingActive s ∧ t.txe.conflict = 0 ∧ t.txe.mark = .none ∧
        t.fru.seen[FaultKind.diverged.code] = true ∧ t.isPending .syncState = true))

/-- R16, R32, R88, R90: the end of a marker slot without a valid marker, at a station that is not holder: MARKER_LOST,
then flywheel timing at the first, and at the second suspension with the takeover timer (ACTIVE) or the listen timer
started, the table being forgotten in LEARNING and RELEARN; it is the one result of that slot. A holder, a station
whose marker slot has had its result and one without slot timing do nothing. R5: a reception still in progress ends with
the slot. Where the rules do not let the
command arise, that the state stands is the model's choice (log entry 2). -/
def Obligations.LostMarkersFlywheelThenSuspend : Prop :=
  (∀ s : State, s.slotTiming = true → s.sync.holder = false → s.sync.markerDone = false → s.sync.lost = 0 →
    exec .markerSlotEnd s = .next { recordFault .markerLost .none s with
      lif := { s.lif with rx := none }
      sync := { s.sync with lost := 1, cond := .flywheel, markerDone := true } }) ∧
  (∀ s : State, s.slotTiming = true → s.sync.state = .active → s.sync.holder = false → s.sync.markerDone = false →
    s.sync.lost = 1 → exec .markerSlotEnd s = .next { recordFault .markerLost .none s with
      lif := { s.lif with tx := none, rx := none }
      sync := { s.sync with
        lost := 2, cond := .suspended, markerDone := true, takeoverTimer := .running ((s.own.val + 1) * 300) }
      rcm := { s.rcm with record := Vector.replicate 32 none, tally := 0 } }) ∧
  (∀ s : State, s.slotTiming = true → s.sync.state ≠ .active → s.sync.holder = false → s.sync.markerDone = false →
    s.sync.lost = 1 → exec .markerSlotEnd s = .next { recordFault .markerLost .none s with
      lif := { s.lif with tx := none, rx := none }
      sync := { s.sync with lost := 2, cond := .suspended, markerDone := true, listenTimer := .running 0 }
      ptu := if s.sync.state = .joining then s.ptu else s.ptu.forget
      rcm := { s.rcm with record := Vector.replicate 32 none, tally := 0 } }) ∧
  ∀ s : State, s.slotTiming = false ∨ s.sync.holder = true ∨ s.sync.markerDone = true →
    exec .markerSlotEnd s = .next { s with lif := { s.lif with rx := none } }

/-- R11, R86: the holder's read of its own marker. Equal bytes clear the lost count; the first failure records
TX_COLLISION; the second makes the holder yield and suspends its cycle. That the suspension and its timer begin at the
read-back, before the marker slot ends, is log entry 8; that the holder address then stands is the model's choice (log
entry 30). -/
def Obligations.OwnMarkerReadBack : Prop :=
  ∀ (sent : List Byte) (s : State), s.lif.tx = some { frame := .marker, bytes := sent } →
    exec (.ownMarkerReadBack (.bytes sent)) s =
      .next { s with lif := { s.lif with tx := none }, sync := { s.sync with lost := 0 } } ∧
    ∀ r : Reception, r ≠ .bytes sent →
      (s.sync.lost = 0 → exec (.ownMarkerReadBack r) s = .next { recordFault .txCollision .none s with
        lif := { s.lif with tx := none }
        sync := { s.sync with lost := 1 } }) ∧
      (s.sync.lost = 1 → s.sync.state = .active → s.sync.holder = true → ∃ t, exec (.ownMarkerReadBack r) s = .next t ∧
        t.lif.tx = none ∧ t.sync = { s.sync with
          holder := false, lost := 2, cond := .suspended, takeoverTimer := .running ((s.own.val + 1) * 300) } ∧
        t.fru.seen[FaultKind.txCollision.code] = true ∧ t.isPending .holder = true ∧ t.ptu = s.ptu ∧ t.cru = s.cru ∧
        t.txe = s.txe ∧ t.dlt = s.dlt ∧ t.rxe = s.rxe ∧ t.cfg = s.cfg)

/-! ## Receptions and the instant of a withdrawal -/

/-- R5, R13: a reception that begins is in progress, with its bytes so far, in the states in which the receiver runs,
and nothing else changes; its end is the whole of it; where none is in progress, because a reset or WITHDRAWN has
abandoned it, the rest of one hands nothing on. The one reception of a slot is the first: in a roll slot or data phase
that has had it, another is disregarded. Entry to WITHDRAWN leaves the driver released, no reception and the line-fault
timer stopped, whatever the command. That receptions come in such commands, and that a command is of the instant of the
one before it only where its operand says so, and matters only after an entry to WITHDRAWN, are the model's forms (log
entries 31 and 32). -/
def Obligations.ReceptionsComeInParts : Prop :=
  (∀ (b : List Byte) (o : Int) (k : Addr) (p : Phase) (g : Bool) (s : State),
    (s.sync.state.onLine = true →
      exec (.markerReceived b o .begins g) s = .next { s with lif := { s.lif with rx := some b } } ∧
      (s.slotTiming = false ∨ s.lif.rollDone[k] = false →
        exec (.rollWordReceived k b .begins g) s = .next { s with lif := { s.lif with rx := some b } }) ∧
      (s.slotTiming = false ∨ s.lif.phaseDone[p] = false →
        exec (.dataFrameReceived p b .begins g) s = .next { s with lif := { s.lif with rx := some b } })) ∧
    (s.slotTiming = true → s.lif.rollDone[k] = true →
      exec (.rollWordReceived k b .begins g) s = .next s ∧ exec (.rollWordReceived k b .whole g) s = .next s ∧
      exec (.rollSlotDamaged k g) s = .next { s with lif := { s.lif with rx := none } }) ∧
    (s.slotTiming = true → s.lif.phaseDone[p] = true →
      exec (.dataFrameReceived p b .begins g) s = .next s ∧ exec (.dataFrameReceived p b .whole g) s = .next s ∧
      exec (.dataPhaseDamaged p g) s = .next { s with lif := { s.lif with rx := none } }) ∧
    (s.sync.state.onLine = false →
      exec (.markerReceived b o .begins g) s = .next s ∧ exec (.rollWordReceived k b .begins g) s = .next s ∧
      exec (.dataFrameReceived p b .begins g) s = .next s) ∧
    (s.lif.rx = none →
      exec (.markerReceived b o .ends g) s = .next s ∧ exec (.rollWordReceived k b .ends g) s = .next s ∧
      exec (.dataFrameReceived p b .ends g) s = .next s) ∧
    ∀ first u, s.lif.rx = some first → u = { s with lif := { s.lif with rx := none } } →
      exec (.markerReceived b o .ends g) s = exec (.markerReceived (first ++ b) o .whole g) u ∧
      exec (.rollWordReceived k b .ends g) s = exec (.rollWordReceived k (first ++ b) .whole g) u ∧
      exec (.dataFrameReceived p b .ends g) s = exec (.dataFrameReceived p (first ++ b) .whole g) u) ∧
  (∀ (i : Instr) (s t : State), exec i s = .next t → s.sync.state ≠ .withdrawn → t.sync.state = .withdrawn →
    t.lif = Lif.reset) ∧
  ∀ (b : List Byte) (o : Int) (k : Addr) (p : Phase) (q : Part) (s : State),
    s.sync.state ≠ .withdrawn ∨ s.sync.left = none →
      exec (.markerReceived b o q true) s = exec (.markerReceived b o q) s ∧
      exec (.markerSlotEnd true) s = exec .markerSlotEnd s ∧
      exec (.rollWordReceived k b q true) s = exec (.rollWordReceived k b q) s ∧
      exec (.rollSlotDamaged k true) s = exec (.rollSlotDamaged k) s ∧
      exec (.dataFrameReceived p b q true) s = exec (.dataFrameReceived p b q) s ∧
      exec (.dataPhaseDamaged p true) s = exec (.dataPhaseDamaged p) s ∧
      exec (.lineFaultTimerExpiry true) s = exec .lineFaultTimerExpiry s

/-- R1, R5: what bit times come to. Nothing, where every one is idle. An intact reception exactly where, behind idle
ones, the preamble AAh, the start delimiter B3h and the bytes of an intact frame stand bit by bit, each most significant
bit first, and within the 4 bit times behind them, or as many as there are left, the line is idle again and shows no
transition; what comes later is disregarded. Damaged otherwise. R5, R7, R15: a slot stands at its place in the cycle,
moved with the cycle start. Its reception begins in it, or up to 8 bit times before, so that its delimiter begins in it;
activity on the line from earlier on leaves it damaged; what goes on at its end is cut there. R8, R10, R11, R16, R87:
what LIF then hands on, in the model's commands: a read-back where the station drove the slot, else the slot's own kind,
damaged, or silent; another station's intact marker wherever it falls, with the offset of its reference point (R2);
without slot timing nothing else. That the preamble must come whole, what counts as idle again, and that activity counts
in both slots is the model's reading of R5 (log entry 35); of two hand-offs at one instant the order is its choice (log
entry 36). -/
def Obligations.BitTimesComeToCommands : Prop :=
  ((∀ line : List LineBit, receive line = .nothing ↔ ∀ x ∈ line, x = .idle) ∧
  (∀ (line : List LineBit) (b : List Byte), receive line = .bytes b ↔
    ((∃ m, parseMarker b = some m) ∨ (∃ w, parseRollWord b = some w) ∨ ∃ f, parseDataFrame b = some f) ∧
    ∃ (p i j : Nat) (behind : List LineBit),
      line = List.replicate p .idle ++ (lineBits ([0xAA#8, 0xB3#8] ++ b)).map .bit ++ behind ∧ 1 ≤ j ∧
      behind.take 4 = List.replicate i .violation ++ List.replicate j .idle) ∧
  (∀ (b : Byte) (j : Nat), j < 8 → (lineBits [b])[j]? = some (b.getLsbD (7 - j))) ∧
  ∀ (a b : List Byte), lineBits (a ++ b) = lineBits a ++ lineBits b ∧ (lineBits a).length = 8 * a.length) ∧
  ((∀ (line : Line) (a b : Int) (i : Nat), (line.between a b).length = (b - a).toNat ∧
    (a + i < b → (line.between a b)[i]? = some (line (a + i)))) ∧
  (∀ (line : Line) (a b : Int), (∀ j : Int, a ≤ j → j < b → line j = .idle) → a < b →
    line.reception a b = .nothing) ∧
  (∀ (line : Line) (a b p : Int), ActivityFrom line a b p →
    line.reception a b = receive (line.between p b) ∧ line.reference a b = p + 8) ∧
  (∀ (line : Line) (a b : Int), (∀ j : Int, a - 9 ≤ j → j ≤ a → line j ≠ .idle) → line.reception a b = .damaged) ∧
  ∀ (o : Int) (k : Addr) (p : Phase), Slot.begins o .marker = 0 ∧ Slot.ends o .marker = 600 + o ∧
    Slot.begins o (.roll k) = 600 + 300 * k.val + o ∧ Slot.ends o (.roll k) = 900 + 300 * k.val + o ∧
    Slot.begins o (.phase p) = 10200 + 600 * p.val + o ∧ Slot.ends o (.phase p) = 10800 + 600 * p.val + o) ∧
  ((∀ (slot : Slot) (line : Line) (s : State), (s.withSlot slot line).pending = slotCommands slot line s ++ s.pending ∧
    (s.slotTiming = false → slotCommands slot line s = [])) ∧
  (∀ (line : List LineBit) (s : State), (s.withLine line).pending = untimedCommands line s ++ s.pending ∧
    (s.sync.state.onLine = false ∨ s.slotTiming = true → untimedCommands line s = []) ∧
    (s.sync.state.onLine = true → s.slotTiming = false → untimedCommands line s = match receive line with
      | .bytes b => if (parseMarker b).isSome = true then [.markerReceived b 0] else []
      | .damaged => []
      | .nothing => []))) ∧
  (∀ (slot : Slot) (line : Line) (s : State) (x : TxRecord) (r : Reception) (o : Int), s.slotTiming = true →
    s.lif.tx = some x → r = line.reception (slot.begins s.sync.cycleShift) (slot.ends s.sync.cycleShift) →
    o = line.reference (slot.begins s.sync.cycleShift) (slot.ends s.sync.cycleShift) - 16 →
    x.frame.slot s.own = slot → ∃ others : List Instr,
      slotCommands slot line s = (match x.frame with
        | .marker => .ownMarkerReadBack r
        | .roll _ => .ownRollReadBack r
        | .data _ _ => .ownDataReadBack r) :: others ∧
      ((∃ b, r = .bytes b ∧ b ≠ x.bytes ∧ (parseMarker b).isSome = true ∧
          others = [.markerReceived b o .whole true]) ∨
        ((∀ b, r = .bytes b → b = x.bytes ∨ parseMarker b = none) ∧ others = []))) ∧
  ∀ (slot : Slot) (line : Line) (s : State) (o : Int), s.slotTiming = true →
    (∀ x, s.lif.tx = some x → x.frame.slot s.own ≠ slot) →
    o = line.reference (slot.begins s.sync.cycleShift) (slot.ends s.sync.cycleShift) - 16 →
    slotCommands slot line s =
      match slot, line.reception (slot.begins s.sync.cycleShift) (slot.ends s.sync.cycleShift) with
      | .marker, .nothing => [.markerSlotEnd]
      | .marker, .damaged => [.markerSlotEnd]
      | .marker, .bytes b =>
        if (parseMarker b).isSome = true then [.markerReceived b o, .markerSlotEnd] else [.markerSlotEnd]
      | .roll _, .nothing => []
      | .roll k, .damaged => [.rollSlotDamaged k]
      | .roll k, .bytes b => if (parseRollWord b).isSome = true then [.rollWordReceived k b]
        else if (parseMarker b).isSome = true then [.rollSlotDamaged k, .markerReceived b o .whole true]
        else [.rollSlotDamaged k]
      | .phase _, .nothing => []
      | .phase k, .damaged => [.dataPhaseDamaged k]
      | .phase k, .bytes b => if (parseDataFrame b).isSome = true then [.dataFrameReceived k b]
        else if (parseMarker b).isSome = true then [.dataPhaseDamaged k, .markerReceived b o .whole true]
        else [.dataPhaseDamaged k]

/-- R8, R88, R117, R157: a fault reported at the instant of a withdrawal, and taken second, is recorded with the station
in WITHDRAWN and asks no change: the line fault and another station's use of the own address, which are FATAL;
MARKER_LOST; ROLL_CHECK, UNEXPECTED_ROLL and a roll word in a learner's own slot; FRAME_CHECK; where the station, as it
stood when it withdrew, would have reported it. Nothing else changes. The two FATAL kinds, and ROLL_CHECK beside the
own address in a marker (R8), in full. Which reports survive the withdrawal is the model's reading (log entry 31). -/
def Obligations.FaultsAtTheInstantOfAWithdrawal : Prop :=
  (∀ (l : Left) (s : State), s.sync.state = .withdrawn → s.sync.left = some l →
    exec (.lineFaultTimerExpiry true) s = .next (if l.faultTimer then recordFault .lineFault .none s else s) ∧
    exec (.markerSlotEnd true) s = .next (if l.markerMissing then recordFault .markerLost .none s else s) ∧
    (∀ (b : List Byte) (o : Int) (m : Marker), parseMarker b = some m → exec (.markerReceived b o .whole true) s =
      .next (if l.state.onLine = true ∧ m.holder = s.own then recordFault .addressInUse (.sender s.own) s else s)) ∧
    (∀ (k : Addr) (b : List Byte), l.timing = true → k ≠ s.own ∨ l.state = .learning →
      exec (.rollSlotDamaged k true) s = .next (recordFault .rollCheck (.sender k) s) ∧
      (parseRollWord b = none →
        exec (.rollWordReceived k b .whole true) s = .next (recordFault .rollCheck (.sender k) s)) ∧
      (∀ w, parseRollWord b = some w → exec (.rollWordReceived k b .whole true) s = .next
        (if w.sender ≠ finByte k then recordFault .unexpectedRoll (.sender k) s
        else if k = s.own then recordFault .addressInUse (.sender s.own) s
        else if w.wellFormed k = false then recordFault .unexpectedRoll (.sender k) s
        else s))) ∧
    (∀ (k : Addr) (b : List Byte), l.timing = false ∨ (k = s.own ∧ l.state ≠ .learning) →
      exec (.rollSlotDamaged k true) s = .next s ∧ exec (.rollWordReceived k b .whole true) s = .next s) ∧
    (∀ (k : Phase) (b : List Byte), l.state = .active → l.timing = true → l.drove ≠ some k →
      exec (.dataPhaseDamaged k true) s = .next (recordFault .frameCheck (.phase k) s) ∧
      (parseDataFrame b = none →
        exec (.dataFrameReceived k b .whole true) s = .next (recordFault .frameCheck (.phase k) s)) ∧
      (∀ f, parseDataFrame b = some f → exec (.dataFrameReceived k b .whole true) s = .next
        (if 32#8 ≤ f.source ∨ 4#8 ≤ f.cls then recordFault .frameCheck (.phase k) s else s))) ∧
    (∀ (k : Phase) (b : List Byte), l.state ≠ .active ∨ l.timing = false ∨ l.drove = some k →
      exec (.dataPhaseDamaged k true) s = .next s ∧ exec (.dataFrameReceived k b .whole true) s = .next s)) ∧
  ∀ (b : List Byte) (o : Int) (m : Marker) (s : State), parseMarker b = some m → m.holder = s.own →
    s.sync.state.onLine = true → ∃ t, exec (.markerReceived b o) s = .next t ∧ t.sync.state = .withdrawn ∧
      t.fru.seen[FaultKind.addressInUse.code] = true ∧
      (∀ n, s.lif.lineFaultTimer = .running n →
        exec (.lineFaultTimerExpiry true) t = .next (recordFault .lineFault .none t)) ∧
      ∀ k : Addr, s.slotTiming = true → k ≠ s.own ∨ s.sync.state = .learning →
        exec (.rollSlotDamaged k true) t = .next (recordFault .rollCheck (.sender k) t)

/-! ## Roll words (chapter Roll Call and Membership) -/

/-- R8, R9: ROLL_CHECK for a roll slot that is damaged or holds no intact roll word, with the slot as its context, in a
slot the station did not drive (the own slot in LEARNING among them); without slot timing, or in the own slot, nothing;
a damaged reception is at its end (R5), and what is reported is the slot's one reception. R41, R42: the checks on an
intact roll word of slot `k`: a sender that is not `k`, a form against check 3 and an absent sender without JOIN record
UNEXPECTED_ROLL and nothing else; one from the own address in the own slot is ADDRESS_IN_USE, and withdraws the station.
Where the rules do not let the command arise, that the state stands is the model's choice (log entry 2). -/
def Obligations.RollSlotsRefused : Prop :=
  (∀ (k : Addr) (frame : List Byte) (s u v : State), u = { s with lif := { s.lif with rx := none } } →
    v = { s with lif := { s.lif with rollDone := s.lif.rollDone.set k true } } →
    (s.slotTiming = true → k ≠ s.own ∨ s.sync.state = .learning → s.lif.rollDone[k] = false →
      exec (.rollSlotDamaged k) s =
        .next (recordFault .rollCheck (.sender k) { v with lif := { v.lif with rx := none } }) ∧
      (parseRollWord frame = none →
        exec (.rollWordReceived k frame) s = .next (recordFault .rollCheck (.sender k) v))) ∧
    (s.slotTiming = false ∨ (k = s.own ∧ s.sync.state ≠ .learning) →
      exec (.rollSlotDamaged k) s = .next u ∧ exec (.rollWordReceived k frame) s = .next s)) ∧
  (∀ (k : Addr) (frame : List Byte) (w : RollWord) (s v : State), s.slotTiming = true → parseRollWord frame = some w →
    s.lif.rollDone[k] = false → v = { s with lif := { s.lif with rollDone := s.lif.rollDone.set k true } } →
    (k ≠ s.own ∨ s.sync.state = .learning → w.sender ≠ finByte k → exec (.rollWordReceived k frame) s =
      .next (recordFault .unexpectedRoll (.sender k) v)) ∧
    (k ≠ s.own → w.sender = finByte k → w.wellFormed k = false → exec (.rollWordReceived k frame) s =
      .next (recordFault .unexpectedRoll (.sender k) v)) ∧
    (k ≠ s.own → w.sender = finByte k → s.rcm.presence[k] = none → w.join = false →
      exec (.rollWordReceived k frame) s = .next (recordFault .unexpectedRoll (.sender k) v)) ∧
    (k = s.own → s.sync.state = .learning → w.sender = finByte k → ∃ t, exec (.rollWordReceived k frame) s = .next t ∧
      WithdrawnFrom (recordFault .addressInUse (.sender s.own) s) t))

/-- R41, R43 to R45: an accepted roll word without an ack for the own address enters the record; the tally counts it
if the own digest is valid and differs, unless it is RELEARNING or a LEAVE. R43, R132, R137, R142 to R144: an ack for
the own address in a peer's roll word, alone or among acks for others, ends the retry entry for that peer with
DELIVERED if it names the entry's sequence, and records STALE_ACK otherwise; acks for others act on nothing. -/
def Obligations.RollWordAcceptedWithItsAcks : Prop :=
  (∀ (k : Addr) (frame : List Byte) (w : RollWord) (s : State), s.slotTiming = true → parseRollWord frame = some w →
    k ≠ s.own → w.sender = finByte k → w.wellFormed k = true → s.rcm.presence[k] ≠ none ∨ w.join = true →
    s.lif.rollDone[k] = false → (∀ p ∈ w.acks, p.1 ≠ finByte s.own) → exec (.rollWordReceived k frame) s = .next { s with
      lif := { s.lif with rollDone := s.lif.rollDone.set k true }
      rcm := { s.rcm with
        record := s.rcm.record.set k (some w)
        tally := if w.relearning = false ∧ w.leave = false ∧ s.ptu.digest ≠ none ∧ s.ptu.digest ≠ some w.digest
          then s.rcm.tally + 1 else s.rcm.tally } }) ∧
  (∀ (k : Addr) (frame : List Byte) (w : RollWord) (q : Byte) (s : State), s.slotTiming = true →
    parseRollWord frame = some w → k ≠ s.own → w.sender = finByte k → w.wellFormed k = true →
    s.rcm.presence[k] ≠ none → s.lif.rollDone[k] = false →
    w.acks.filter (fun p => p.1 = finByte s.own) = [(finByte s.own, q)] →
    ∃ t, exec (.rollWordReceived k frame) s = .next t ∧
      t.rcm = { s.rcm with
        record := s.rcm.record.set k (some w)
        tally := if w.relearning = false ∧ w.leave = false ∧ s.ptu.digest ≠ none ∧ s.ptu.digest ≠ some w.digest
          then s.rcm.tally + 1 else s.rcm.tally } ∧
      t.lif = { s.lif with rollDone := s.lif.rollDone.set k true } ∧ t.sync = s.sync ∧ t.ptu = s.ptu ∧ t.cru = s.cru ∧
      t.txe = s.txe ∧ t.rxe = s.rxe ∧ t.cfg = s.cfg ∧
      (∀ (before after : List RetryEntry) (e : RetryEntry), s.dlt.retry = before ++ e :: after →
        (∀ x ∈ before, x.frame.dest ≠ .unicast k) → e.frame.dest = .unicast k →
        (e.frame.seq = some q → t.fru = s.fru ∧ t.dlt.retry = before ++ after ∧
          t.dlt.done = s.dlt.done ++ [{ frame := e.frame, status := .delivered, cycle := s.sync.cycleNumber }] ∧
          (t.isPending .doneReady = true ↔ s.isPending .doneReady = true ∨ s.dlt.done = [])) ∧
        (e.frame.seq ≠ some q → t.dlt = s.dlt ∧ t.fru.seen[FaultKind.staleAck.code] = true)) ∧
      ((∀ x ∈ s.dlt.retry, x.frame.dest ≠ .unicast k) →
        t.dlt = s.dlt ∧ t.fru.seen[FaultKind.staleAck.code] = true))

/-- R11, R39: the station's read of its own roll word. Equal bytes enter it in the record and clear the collision
count (a LEAVE's do not); of a normal or RELEARNING roll word the first failure counts, the second in succession is
ADDRESS_CONFLICT; of a JOIN the first is. -/
def Obligations.OwnRollReadBack : Prop :=
  ∀ (w : RollWord) (sent : List Byte) (s : State), s.lif.tx = some { frame := .roll w, bytes := sent } →
    (w.leave = true → ∀ r : Reception,
      exec (.ownRollReadBack r) s = .next { s with
        lif := { s.lif with tx := none, rollDone := s.lif.rollDone.set s.own true } }) ∧
    (w.leave = false → exec (.ownRollReadBack (.bytes sent)) s = .next { s with
      lif := { s.lif with tx := none, rollDone := s.lif.rollDone.set s.own true }
      rcm := { s.rcm with record := s.rcm.record.set s.own (some w), ownCollisions := 0 } }) ∧
    (w.leave = false → ∀ r : Reception, r ≠ .bytes sent →
      (w.join = false → s.rcm.ownCollisions = 0 → exec (.ownRollReadBack r) s = .next { s with
        lif := { s.lif with tx := none, rollDone := s.lif.rollDone.set s.own true }
        rcm := { s.rcm with ownCollisions := 1 } }) ∧
      (w.join = true ∨ 1 ≤ s.rcm.ownCollisions → s.sync.state.onLine = true → ∃ t,
        exec (.ownRollReadBack r) s = .next t ∧ t.sync.state = .withdrawn ∧
          t.fru.seen[FaultKind.addressConflict.code] = true))

/-! ## Data frames (chapter Receive Path) -/

/-- R5, R117: FRAME_CHECK for a data phase that is damaged or holds no intact data frame, in ACTIVE with slot timing,
where the station did not drive the phase; where RXE is handed nothing of the phase, nothing; a damaged reception is at
its end, and what is handed on is the phase's one reception, disregarded outside ACTIVE (R8). R118, R120: a source or
class out of range is FRAME_CHECK; a frame for this station or for all from a source that does not own the phase in the
own table, or from the own address, is FOREIGN_FRAME. Where the rules do not let the command arise, that the state
stands is the model's choice (log entry 2). -/
def Obligations.FramesRefused : Prop :=
  (∀ (k : Phase) (frame : List Byte) (s u v : State), u = { s with lif := { s.lif with rx := none } } →
    v = { s with lif := { s.lif with phaseDone := s.lif.phaseDone.set k true } } →
    (s.slotTiming = true → (∀ c b, s.lif.tx ≠ some { frame := .data k c, bytes := b }) → s.lif.phaseDone[k] = false →
      (s.sync.state = .active → exec (.dataPhaseDamaged k) s =
        .next (recordFault .frameCheck (.phase k) { v with lif := { v.lif with rx := none } }) ∧
        (parseDataFrame frame = none →
          exec (.dataFrameReceived k frame) s = .next (recordFault .frameCheck (.phase k) v))) ∧
      (s.sync.state ≠ .active → exec (.dataPhaseDamaged k) s = .next { v with lif := { v.lif with rx := none } } ∧
        exec (.dataFrameReceived k frame) s = .next v)) ∧
    (s.slotTiming = false ∨ (∃ c b, s.lif.tx = some { frame := .data k c, bytes := b }) →
      exec (.dataPhaseDamaged k) s = .next u ∧ exec (.dataFrameReceived k frame) s = .next s)) ∧
  (∀ (k : Phase) (frame : List Byte) (f : DataFrame) (s v : State), s.sync.state = .active → s.slotTiming = true →
    (∀ c b, s.lif.tx ≠ some { frame := .data k c, bytes := b }) → s.lif.phaseDone[k] = false →
    v = { s with lif := { s.lif with phaseDone := s.lif.phaseDone.set k true } } → parseDataFrame frame = some f →
    (32#8 ≤ f.source ∨ 4#8 ≤ f.cls →
      exec (.dataFrameReceived k frame) s = .next (recordFault .frameCheck (.phase k) v)) ∧
    (∀ a : Addr, f.source = finByte a → f.cls ≤ 3#8 → f.dest = finByte s.own ∨ f.dest = 63#8 →
      s.ptu.table[k] ≠ .owned a ∨ a = s.own → exec (.dataFrameReceived k frame) s =
        .next (recordFault .foreignFrame (.frame f.source f.dest f.cls f.seq) v)))

/-- R119: a data frame whose source and class are in range (check 1) and whose destination is neither the own address
nor 63 changes nothing, whatever its destination value, its phase and the table, but that the phase has had its one
reception (R5). -/
def Obligations.FrameForAnotherStationIsDiscarded : Prop :=
  ∀ (k : Phase) (frame : List Byte) (f : DataFrame) (s : State), s.sync.state = .active → s.slotTiming = true →
    (∀ c b, s.lif.tx ≠ some { frame := .data k c, bytes := b }) → s.lif.phaseDone[k] = false →
    parseDataFrame frame = some f → f.source ≤ 31#8 → f.cls ≤ 3#8 → f.dest ≠ finByte s.own → f.dest ≠ 63#8 →
    exec (.dataFrameReceived k frame) s =
      .next { s with lif := { s.lif with phaseDone := s.lif.phaseDone.set k true } }

/-- R121, R123 to R128: a unicast frame from the owner of its phase. A repeat of the last accepted sequence is a
duplicate: it is acknowledged again and joins no queue. With 32 records held it is lost with RX_OVERFLOW. Else it
joins the tail of the receive queue, becomes the last accepted one and gives its ack; a sequence that is not the
successor of the one on record also records SEQUENCE_GAP. R121, R126, R127: a broadcast from the owner of its phase
joins the tail of the receive queue, or is lost with RX_OVERFLOW where 32 records are held; it is not acknowledged and
its sequence is not kept. -/
def Obligations.FramesAccepted : Prop :=
  (∀ (k : Phase) (frame : List Byte) (f : DataFrame) (a : Addr) (c : Cls) (n : Half) (s w : State),
    s.sync.state = .active → s.slotTiming = true → (∀ c b, s.lif.tx ≠ some { frame := .data k c, bytes := b }) →
    s.lif.phaseDone[k] = false → w = { s with lif := { s.lif with phaseDone := s.lif.phaseDone.set k true } } →
    s.sync.cycleNumber = some n → parseDataFrame frame = some f → f.source = finByte a → f.cls = c.byte →
    f.dest = finByte s.own → a ≠ s.own → s.ptu.table[k] = .owned a →
    (s.rxe.lastAcc[a] = some f.seq → exec (.dataFrameReceived k frame) s = .next { w with
      rxe := { s.rxe with
        acks := if ∃ p ∈ s.rxe.acks, p.1 = a then s.rxe.acks else s.rxe.acks ++ [(a, f.seq)] } }) ∧
    (s.rxe.lastAcc[a] ≠ some f.seq → 32 ≤ s.rxe.queue.length → exec (.dataFrameReceived k frame) s =
      .next (recordFault .rxOverflow (.frame f.source f.dest f.cls f.seq) w)) ∧
    (s.rxe.lastAcc[a] ≠ some f.seq → s.rxe.queue.length < 32 → ∃ acks : List (Addr × Byte), ∃ u : State,
      ((∀ p ∈ s.rxe.acks, p.1 ≠ a) → acks = s.rxe.acks ++ [(a, f.seq)]) ∧
      (∀ (before after : List (Addr × Byte)) (v : Byte), s.rxe.acks = before ++ (a, v) :: after →
        (∀ p ∈ before ++ after, p.1 ≠ a) → acks = before ++ (a, f.seq) :: after) ∧
      u = { w with
        rxe := {
          queue := s.rxe.queue ++ [{ source := a, dest := .unicast s.own, cls := c, seq := f.seq, payload := f.payload,
                                     cycle := n, phase := k }]
          lastAcc := s.rxe.lastAcc.set a (some f.seq)
          acks := acks }
        hp := { s.hp with events := if s.rxe.queue = [] then s.hp.events ||| 0x001#9 else s.hp.events } } ∧
      exec (.dataFrameReceived k frame) s = .next (match s.rxe.lastAcc[a] with
        | none => u
        | some v => if f.seq = v + 1#8 then u
          else recordFault .sequenceGap (.frame f.source f.dest f.cls f.seq) u))) ∧
  (∀ (k : Phase) (frame : List Byte) (f : DataFrame) (a : Addr) (c : Cls) (n : Half) (s w : State),
    s.sync.state = .active → s.slotTiming = true → (∀ c b, s.lif.tx ≠ some { frame := .data k c, bytes := b }) →
    s.lif.phaseDone[k] = false → w = { s with lif := { s.lif with phaseDone := s.lif.phaseDone.set k true } } →
    s.sync.cycleNumber = some n → parseDataFrame frame = some f → f.source = finByte a → f.cls = c.byte →
    f.dest = 63#8 → a ≠ s.own → s.ptu.table[k] = .owned a →
    (32 ≤ s.rxe.queue.length → exec (.dataFrameReceived k frame) s =
      .next (recordFault .rxOverflow (.frame f.source 63#8 f.cls f.seq) w)) ∧
    (s.rxe.queue.length < 32 → exec (.dataFrameReceived k frame) s = .next { w with
      rxe := { s.rxe with
        queue := s.rxe.queue ++ [{ source := a, dest := .broadcast, cls := c, seq := f.seq, payload := f.payload,
                                   cycle := n, phase := k }] }
      hp := { s.hp with events := if s.rxe.queue = [] then s.hp.events ||| 0x001#9 else s.hp.events } }))

/-- R11, R111, R112: the station's read of its own data frame. Equal bytes mark the cycle CLEAN, unless it is marked
already; others record TX_COLLISION and mark it FAILED, or, with two such cycles behind it and this one not marked FAILED
before, record SCHEDULE_CONFLICT and relearn: for a unicast frame and a broadcast alike. A broadcast completes SENT or
COLLIDED; a unicast frame waits for its ack. It is the one reception of its phase (R5). -/
def Obligations.OwnDataReadBack : Prop :=
  (∀ (k : Phase) (sent : List Byte) (s : State), s.lif.tx = some { frame := .data k none, bytes := sent } →
    exec (.ownDataReadBack (.bytes sent)) s = .next { s with
      lif := { s.lif with tx := none, phaseDone := s.lif.phaseDone.set k true }
      txe := { s.txe with mark := if s.txe.mark = .none then .clean else s.txe.mark } } ∧
    ∀ r : Reception, r ≠ .bytes sent →
      (s.txe.conflict < 2 ∨ s.txe.mark = .failed →
        exec (.ownDataReadBack r) s = .next { recordFault .txCollision (.phase k) s with
          lif := { s.lif with tx := none, phaseDone := s.lif.phaseDone.set k true }
          txe := { s.txe with mark := .failed } }) ∧
      (2 ≤ s.txe.conflict → s.txe.mark ≠ .failed → s.sync.state = .active → ∃ t,
        exec (.ownDataReadBack r) s = .next t ∧ ConflictFrom k s t ∧ t.dlt = s.dlt ∧
          ∀ c, t.txe.queue c = s.txe.queue c)) ∧
  ∀ (k : Phase) (sent : List Byte) (c : Cls) (f : TxFrame) (rest : List TxFrame) (s : State),
    s.lif.tx = some { frame := .data k (some c), bytes := sent } → s.txe.queue c = f :: rest →
    (∃ t, exec (.ownDataReadBack (.bytes sent)) s = .next t ∧ BroadcastEnds .sent c f rest s t ∧
      t.lif = { s.lif with tx := none, phaseDone := s.lif.phaseDone.set k true } ∧
      t.txe.mark = (if s.txe.mark = .none then .clean else s.txe.mark) ∧ t.txe.conflict = s.txe.conflict ∧
      t.fru = s.fru ∧ t.sync = s.sync ∧ t.ptu = s.ptu ∧ t.cru = s.cru) ∧
    ∀ r : Reception, r ≠ .bytes sent →
      (s.txe.conflict < 2 ∨ s.txe.mark = .failed → ∃ t, exec (.ownDataReadBack r) s = .next t ∧
        BroadcastEnds .collided c f rest s t ∧
        t.lif = { s.lif with tx := none, phaseDone := s.lif.phaseDone.set k true } ∧
        t.txe.mark = .failed ∧ t.txe.conflict = s.txe.conflict ∧
        t.fru = (recordFault .txCollision (.phase k) s).fru ∧ t.sync = s.sync ∧ t.ptu = s.ptu ∧ t.cru = s.cru) ∧
      (2 ≤ s.txe.conflict → s.txe.mark ≠ .failed → s.sync.state = .active → ∃ t,
        exec (.ownDataReadBack r) s = .next t ∧ BroadcastEnds .collided c f rest s t ∧ ConflictFrom k s t)

/-! ## The cycle events (R14) -/

/-- R14, R44, R45, R88, R103, R112: a cycle start at a station that is not holder and has nothing to age: the next
number (0 after 65535), the finished cycle's mark folded into the conflict count, the record and the tally empty, and
a pending pattern in force with the pointer at 0. R89, R90: with the holder departed no cycle start is produced: the
cycle is suspended, and an ACTIVE station starts its takeover timer at its own delay, any other its listen timer; that
the timer starts at this command, and not at the end of the marker slot that would have followed, is log entry 8. R85,
R187: at its cycle start the holder hands LIF a marker with the new cycle number, its own address, configured absence
limit, presence map, digest and the segment of that cycle. R5: no slot of the new cycle has had its reception. Where
the rules do not let the command arise, that the state stands is the model's choice (log entry 2). -/
def Obligations.CycleStartAdvancesOrSuspends : Prop :=
  ((∀ (n : Half) (s : State), s.slotTiming = true → s.sync.state ≠ .active ∨ s.dlt.retry = [] →
    s.sync.holderVacant = false → s.sync.holder = false → s.sync.cycleNumber = some n → s.txe.applyPending = false →
    exec .cycleStart s = .next { s with
      lif := { s.lif with rollDone := Vector.replicate 32 false, phaseDone := Vector.replicate 96 false }
      sync := { s.sync with
        cycleNumber := some (n + 1#16), markerDone := false, leaveSent := false, cycleShift := 0 }
      rcm := { s.rcm with record := Vector.replicate 32 none, tally := 0 }
      txe := { s.txe with
        mark := .none
        conflict := match s.txe.mark with
          | .none => s.txe.conflict
          | .clean => 0
          | .failed => s.txe.conflict + 1 } }) ∧
  (∀ s : State, s.slotTiming = true → s.sync.holderVacant = false → s.txe.applyPending = true →
    ∃ t, exec .cycleStart s = .next t ∧ t.txe.pattern = s.txe.staged ∧ t.txe.staged = s.txe.staged ∧
      t.txe.pointer = 0 ∧ t.txe.applyPending = false ∧ t.isPending .patternApplied = true) ∧
  ∀ s : State, s.slotTiming = false → exec .cycleStart s = .next s) ∧
  (∀ s : State, s.slotTiming = true → s.sync.holderVacant = true → ∃ t, exec .cycleStart s = .next t ∧
    t.sync = { s.sync with
      cond := .suspended
      takeoverTimer := if s.sync.state = .active then .running ((s.own.val + 1) * 300) else s.sync.takeoverTimer
      listenTimer := if s.sync.state = .active then s.sync.listenTimer else .running 0 } ∧
    t.lif.tx = none ∧ t.ptu.learnAttempts = s.ptu.learnAttempts ∧
    (s.sync.state = .active ∨ s.sync.state = .joining → t.ptu = s.ptu) ∧
    (s.sync.state = .learning ∨ s.sync.state = .relearn → t.ptu.digest = none ∧ ∀ k : Phase, t.ptu.table[k] = .unknown) ∧
    t.rcm.presence = s.rcm.presence ∧ t.rcm.tally = 0 ∧ (∀ a : Addr, t.rcm.record[a] = none) ∧
    t.cru = s.cru ∧ t.dlt = s.dlt ∧ t.rxe = s.rxe ∧ t.fru = s.fru ∧ t.cfg = s.cfg ∧ t.hp = s.hp) ∧
  ∀ (n : Half) (s : State), s.slotTiming = true → s.sync.holderVacant = false → s.sync.holder = true →
    s.sync.cycleNumber = some n → ∃ (t : State) (m : Marker), exec .cycleStart s = .next t ∧
      t.lif.tx = some { frame := .marker, bytes := m.bytes } ∧ t.sync.cycleNumber = some (n + 1#16) ∧
      m.number = n + 1#16 ∧ m.holder = s.own ∧ m.limit = s.cfg.config.absenceLimit ∧ m.presence = s.rcm.presence ∧
      m.digest = s.ptu.digest.getD 0xFFFF#16 ∧
      (∀ i : Fin 12, m.segment[i] = (s.ptu.table[12 * ((n + 1#16).toNat % 8) + i.val]'(by omega)).byte) ∧
      t.sync.holder = true ∧ t.sync.state = s.sync.state ∧ t.ptu = s.ptu ∧ t.cru = s.cru ∧ t.rxe = s.rxe ∧
      t.cfg = s.cfg

/-- R133 to R135, R140: aging at a cycle start of an ACTIVE station, of a list of any length. A DUE entry stands; a
WAITING one grows one cycle older; one that reaches the retry timeout with an attempt left becomes DUE, and the
due-orders are given out in list order; one that reaches it with none left, and a closed one, are given up: their
frames complete UNCONFIRMED in list order, DELIVERY_FAILED is recorded for each, and the first fault, if none stood,
is of the first of them. -/
def Obligations.AgingOfTheRetryList : Prop :=
  ∀ s : State, s.slotTiming = true → s.sync.state = .active → s.sync.holderVacant = false →
    ∃ t, exec .cycleStart s = .next t ∧
      t.dlt.retry = agedList s.cfg.config s.dlt.dueCounter s.dlt.retry ∧
      t.dlt.dueCounter = s.dlt.dueCounter + byteOf (s.dlt.retry.countP (fallsDue s.cfg.config)) ∧
      t.dlt.done = s.dlt.done ++ (s.dlt.retry.filter (givenUp s.cfg.config)).map
        (fun e => { frame := e.frame, status := .unconfirmed, cycle := t.sync.cycleNumber }) ∧
      t.sync.cycleNumber = s.sync.cycleNumber.map (· + 1#16) ∧
      ((∀ e ∈ s.dlt.retry, givenUp s.cfg.config e = false) → t.fru = s.fru) ∧
      (FaultsSound s.fru → t.fru.counts[FaultKind.deliveryFailed.code] =
        min 255 (s.fru.counts[FaultKind.deliveryFailed.code] + s.dlt.retry.countP (givenUp s.cfg.config))) ∧
      (∀ e, (s.dlt.retry.filter (givenUp s.cfg.config)).head? = some e → s.fru.first = none →
        masked s.fru.mask .deliveryFailed = false → t.fru.first = some
          { kind := .deliveryFailed, cycle := t.sync.cycleNumber, state := .active
            ctx := .frame (finByte s.own) e.frame.dest.byte e.frame.cls.byte (e.frame.seq.getD 0#8) }) ∧
      (t.isPending .doneReady = true ↔ s.isPending .doneReady = true ∨
        (s.dlt.done = [] ∧ ∃ e ∈ s.dlt.retry, givenUp s.cfg.config e = true))

/-- R35 to R37: in JOINING the own roll slot carries a JOIN without lists; in RELEARN a RELEARNING roll word with the
oldest acks, at most four; in LEARNING, and without slot timing, nothing is driven. R35 to R37, R59, R65: in ACTIVE
the own roll slot carries a normal roll word. A COUNT claim lists its lowest VACANT phases, as many as it still lacks,
an AT claim its target while it is VACANT; the claim counts one attempt (R59), and never more than 4 (R60; log entry
10); the release list and flag are carried and kept; the oldest acks, at most four, leave the ack list. Where the rules
do not let the command arise, that the state stands is the model's choice (log entry 2). -/
def Obligations.OwnRollSlotSendsTheRollWord : Prop :=
  ((∀ s : State, s.slotTiming = true → s.sync.state = .joining → ∃ w : RollWord,
    w = { sender := finByte s.own, join := true, leave := false, releaseAll := false, relearning := false,
          degraded := degradedFlag s.fru, digest := s.ptu.digest.getD 0xFFFF#16, claims := [], releases := [],
          acks := [] } ∧
    exec .ownRollSlot s = .next { s with lif := { s.lif with tx := some { frame := .roll w, bytes := w.bytes } } }) ∧
  (∀ s : State, s.slotTiming = true → s.sync.state = .relearn → s.sync.withdrawPending = false → ∃ w : RollWord,
    w = { sender := finByte s.own, join := false, leave := false, releaseAll := false, relearning := true,
          degraded := degradedFlag s.fru, digest := 0xFFFF#16, claims := [], releases := [],
          acks := (s.rxe.acks.take 4).map fun p => (finByte p.1, p.2) } ∧
    exec .ownRollSlot s = .next { s with
      lif := { s.lif with tx := some { frame := .roll w, bytes := w.bytes } }
      rxe := { s.rxe with acks := s.rxe.acks.drop 4 } }) ∧
  ∀ s : State, s.slotTiming = false ∨ s.sync.state = .learning → exec .ownRollSlot s = .next s) ∧
  (∀ s : State, s.slotTiming = true → s.sync.state = .active → s.sync.withdrawPending = false → ∃ w : RollWord,
    w.sender = finByte s.own ∧ w.join = false ∧ w.leave = false ∧ w.relearning = false ∧
    w.releaseAll = s.cru.releaseAll ∧ w.degraded = degradedFlag s.fru ∧ w.digest = s.ptu.digest.getD 0xFFFF#16 ∧
    w.releases = s.cru.releases.map finByte ∧ w.acks = (s.rxe.acks.take 4).map (fun p => (finByte p.1, p.2)) ∧
    (s.cru.claim = none → w.claims = []) ∧
    (∀ c, s.cru.claim = some c → c.kind = .count → w.claims =
      (((List.finRange 96).filter fun k : Phase => s.ptu.table[k] = .vacant).take
        (c.requested - c.granted.length)).map finByte) ∧
    (∀ c p, s.cru.claim = some c → c.kind = .at p →
      w.claims = if s.ptu.table[p] = .vacant then [finByte p] else []) ∧
    exec .ownRollSlot s = .next { s with
      lif := { s.lif with tx := some { frame := .roll w, bytes := w.bytes } }
      cru := { s.cru with
        claim := s.cru.claim.map fun c => { c with attempts := min 4 (c.attempts + 1) }
        carried := some { phases := s.cru.releases, all := s.cru.releaseAll } }
      rxe := { s.rxe with acks := s.rxe.acks.drop 4 } })

/-- R44, R49 to R53, R69: stage 1 at every address: arrivals count 0, departures leave the map, an unheard present
peer ages by one, a heard one counts 0 again; the tally becomes the disagreeing peers; without slot timing no close.
R51, R52, R139: the last arrival and departure records name the highest address that arrived or departed, the reason
and this cycle; MEMBERSHIP is pending if any did; the retry entries of departed addresses complete DEST_LEFT, in the
order of the addresses. That the own address takes its ascending place among the others, in both records and in the
completions, is the model's reading (log entry 9). Where the rules do not let the command arise, that the state stands
is the model's choice (log entry 2). -/
def Obligations.CloseDecidesMembership : Prop :=
  (∀ s : State, s.slotTiming = true → ∃ t, exec .rollCallClose s = .next t ∧
    t.rcm.disagreeing = s.rcm.tally ∧ t.rcm.tally = 0 ∧ t.rcm.record = s.rcm.record ∧
    t.rcm.absenceLimit = s.rcm.absenceLimit ∧ t.rcm.ownCollisions = s.rcm.ownCollisions ∧
    (∀ a : Addr,
      (arrivalAt s a → t.rcm.presence[a] = some 0) ∧
      (¬arrivalAt s a → departureAt s a ≠ none → t.rcm.presence[a] = none) ∧
      (¬arrivalAt s a → departureAt s a = none → s.rcm.presence[a] = none → t.rcm.presence[a] = none) ∧
      (¬arrivalAt s a → departureAt s a = none → ∀ n w, s.rcm.presence[a] = some n → s.rcm.record[a] = some w →
        a ≠ s.own ∨ s.sync.state ≠ .joining → t.rcm.presence[a] = some 0) ∧
      (departureAt s a = none → ∀ n, s.rcm.presence[a] = some n → s.rcm.record[a] = none →
        t.rcm.presence[a] = if a = s.own then some n else some (n + 1)) ∧
      (∀ w, s.rcm.record[a] = some w → t.rcm.presence[a] ≠ none → t.rcm.degraded[a] = w.degraded) ∧
      (departureAt s a ≠ none → t.rxe.lastAcc[a] = none ∧ t.txe.nextSeq[a] = 0#8 ∧ ∀ p ∈ t.rxe.acks, p.1 ≠ a)) ∧
    (∀ (a : Addr) (why : DepartReason) (n : Half), s.sync.cycleNumber = some n →
      highest (fun b => (departureAt s b).isSome) a → departureAt s a = some why →
      t.rcm.lastDeparture = some { addr := a, reason := why, cycle := n }) ∧
    ((∀ a : Addr, departureAt s a = none) → t.rcm.lastDeparture = s.rcm.lastDeparture) ∧
    (∀ (a : Addr) (n : Half), s.sync.cycleNumber = some n → arrivalAt s a → (∀ b : Addr, a < b → ¬arrivalAt s b) →
      t.rcm.lastArrival = some { addr := a, cycle := n }) ∧
    ((∀ a : Addr, ¬arrivalAt s a) → t.rcm.lastArrival = s.rcm.lastArrival) ∧
    (t.isPending .membership = true ↔ s.isPending .membership = true ∨
      ∃ a : Addr, arrivalAt s a ∨ departureAt s a ≠ none) ∧
    (RetryListSound s.dlt.retry → t.dlt = { s.dlt with
      retry := stayingEntries (fun a => (departureAt s a).isSome) s.dlt.retry
      done := s.dlt.done ++
        leftCompletions (fun a => (departureAt s a).isSome) s.sync.cycleNumber s.dlt.retry } ∧
      (t.isPending .doneReady = true ↔ s.isPending .doneReady = true ∨ (s.dlt.done = [] ∧
        leftCompletions (fun a => (departureAt s a).isSome) s.sync.cycleNumber s.dlt.retry ≠ [])))) ∧
  ∀ s : State, s.slotTiming = false → exec .rollCallClose s = .next s

/-- R51, R70 to R72: what the close makes of each table entry. A VACANT one goes to its lowest present claimant;
COOLING counts down; UNKNOWN stands; an OWNED one cools if its owner departs or, being present, releases it, and
stands otherwise. -/
def Obligations.CloseDecidesEveryEntry : Prop :=
  ∀ s : State, s.slotTiming = true → ∃ t, exec .rollCallClose s = .next t ∧ ∀ k : Phase,
    match s.ptu.table[k] with
    | .vacant =>
      (t.ptu.table[k] = .vacant ∧ ∀ a, ¬claimsAt s t k a) ∨
        ∃ a, t.ptu.table[k] = .owned a ∧ claimsAt s t k a ∧ ∀ b, b < a → ¬claimsAt s t k b
    | .cooling1 => t.ptu.table[k] = .vacant
    | .cooling2 => t.ptu.table[k] = .cooling1
    | .unknown => t.ptu.table[k] = .unknown
    | .owned a =>
      if departureAt s a ≠ none ∨
          (∃ w, countedWord s t a = some w ∧ (w.releaseAll = true ∨ finByte k ∈ w.releases))
        then t.ptu.table[k] = .cooling2 else t.ptu.table[k] = .owned a

/-- R60, R61, R74: the own claim after the close. The phases that went from VACANT to OWNED by the own address join
the granted list, ascending; a COUNT claim ends GRANTED when it has all it asked for, at its fourth attempt PARTLY or
REFUSED, and stays PENDING otherwise. R60, R61, R74: an AT claim ends GRANTED when its target has become the station's
own, REFUSED when it is another's or at the fourth attempt, and stays PENDING otherwise; a target that is COOLING or
UNKNOWN is taken as a VACANT one (log entry 11). A claim that ends leaves its outcome with the granted list and
CLAIM_END pending. -/
def Obligations.CloseSettlesTheClaim : Prop :=
  (∀ (c : Claim) (s : State), s.slotTiming = true → s.cru.claim = some c → c.kind = .count →
    ∃ t g, exec .rollCallClose s = .next t ∧
      g = c.granted ++ (List.finRange 96).filter (fun k : Phase =>
        s.ptu.table[k] = .vacant ∧ t.ptu.table[k] = .owned s.own) ∧
      (c.requested ≤ g.length → t.cru.claim = none ∧ t.cru.lastClaim = some (.granted, g) ∧
        t.isPending .claimEnd = true) ∧
      (g.length < c.requested → 4 ≤ c.attempts → t.cru.claim = none ∧
        t.cru.lastClaim = some (if g = [] then .refused else .partly, g) ∧ t.isPending .claimEnd = true) ∧
      (g.length < c.requested → c.attempts < 4 → t.cru.claim = some { c with granted := g } ∧
        t.cru.lastClaim = s.cru.lastClaim ∧ t.isPending .claimEnd = s.isPending .claimEnd)) ∧
  (∀ (c : Claim) (p : Phase) (s : State), s.slotTiming = true → s.cru.claim = some c → c.kind = .at p →
    ∃ t g, exec .rollCallClose s = .next t ∧
      g = c.granted ++ (List.finRange 96).filter (fun k : Phase =>
        s.ptu.table[k] = .vacant ∧ t.ptu.table[k] = .owned s.own) ∧
      (t.ptu.table[p] = .owned s.own → t.cru.claim = none ∧ t.cru.lastClaim = some (.granted, g) ∧
        t.isPending .claimEnd = true) ∧
      (∀ a, a ≠ s.own → t.ptu.table[p] = .owned a → t.cru.claim = none ∧ t.cru.lastClaim = some (.refused, g) ∧
        t.isPending .claimEnd = true) ∧
      ((∀ a, t.ptu.table[p] ≠ .owned a) → 4 ≤ c.attempts → t.cru.claim = none ∧
        t.cru.lastClaim = some (.refused, g) ∧ t.isPending .claimEnd = true) ∧
      ((∀ a, t.ptu.table[p] ≠ .owned a) → c.attempts < 4 → t.cru.claim = some { c with granted := g } ∧
        t.cru.lastClaim = s.cru.lastClaim ∧ t.isPending .claimEnd = s.isPending .claimEnd))

/-- R65: with the own roll word in the record the carried phases leave the release list and a carried flag clears,
with APPLIED and RELEASE_END; without it list and flag stand. The carried record is none after every close. R50, R74,
R79: the close whose record holds a JOINING station's own JOIN makes it ACTIVE; no other close changes the sync state.
-/
def Obligations.CloseEndsReleasesAndJoining : Prop :=
  (∀ s : State, s.slotTiming = true → ∃ t, exec .rollCallClose s = .next t ∧ t.cru.carried = none ∧
    (∀ c w, s.cru.carried = some c → s.rcm.record[s.own] = some w → c.phases ≠ [] ∨ c.all = true →
      (∀ p, p ∈ t.cru.releases ↔ p ∈ s.cru.releases ∧ p ∉ c.phases) ∧
      t.cru.releaseAll = (s.cru.releaseAll && !c.all) ∧ t.cru.lastRelease = some .applied ∧
      t.isPending .releaseEnd = true) ∧
    (s.cru.carried = none ∨ s.rcm.record[s.own] = none ∨ s.cru.carried = some { phases := [], all := false } →
      t.cru.releases = s.cru.releases ∧
      t.cru.releaseAll = s.cru.releaseAll ∧ t.cru.lastRelease = s.cru.lastRelease ∧
      t.isPending .releaseEnd = s.isPending .releaseEnd)) ∧
  (∀ s : State, s.slotTiming = true → ∃ t, exec .rollCallClose s = .next t ∧
    (∀ w, s.sync.state = .joining → s.rcm.record[s.own] = some w → w.join = true →
      t.sync.state = .active ∧ t.isPending .syncState = true ∧ t.rcm.presence[s.own] = some 0) ∧
    (s.sync.state ≠ .joining ∨ (∀ w, s.rcm.record[s.own] = some w → w.join = false) → t.sync.state = s.sync.state ∧
      t.isPending .syncState = s.isPending .syncState) ∧
    t.lif = s.lif ∧ t.fru = s.fru ∧ t.cfg = s.cfg ∧ t.sync.cycleNumber = s.sync.cycleNumber ∧
    t.sync.cond = s.sync.cond ∧
    (t.sync.holderVacant = true ↔ s.sync.holderVacant = true ∨
      ∃ a, a ≠ s.own ∧ s.sync.holderAddr = some a ∧ departureAt s a ≠ none))

/-- R104: outside ACTIVE, without slot timing or in a phase the station does not own, nothing is sent; and nothing is
sent in an owned phase when no entry is DUE and every queue is empty. R106, R107: nor when none of the 16 entries that
the walk examines, from the pointer on, has an eligible head: the heads for absent destinations, one after the other,
have completed NO_DESTINATION, those behind them (blocked by a full retry list, or by an entry for their destination)
stay, and the pointer stands. Where the rules do not let the command arise, that the state stands is the model's choice
(log entry 2). -/
def Obligations.PhasesInWhichNothingIsSent : Prop :=
  ((∀ (k : Phase) (s : State), s.sync.state ≠ .active ∨ s.slotTiming = false ∨ s.ptu.table[k] ≠ .owned s.own →
    exec (.dataPhase k) s = .next s) ∧
  ∀ (k : Phase) (s : State), s.sync.state = .active → s.slotTiming = true → s.ptu.table[k] = .owned s.own →
    (∀ e ∈ s.dlt.retry, e.due = none) → s.txe.q0 = [] → s.txe.q1 = [] → s.txe.q2 = [] → s.txe.q3 = [] →
    exec (.dataPhase k) s = .next s) ∧
  ∀ (k : Phase) (s : State), s.sync.state = .active → s.slotTiming = true → s.ptu.table[k] = .owned s.own →
    (∀ e ∈ s.dlt.retry, e.due = none) → (∀ j : Fin 16, servable s (classAt s j) = false) →
    ∃ t, exec (.dataPhase k) s = .next t ∧
      (∀ c, t.txe.queue c = if c ∈ examined s 15 then liveQueue s c else s.txe.queue c) ∧
      t.txe.pointer = s.txe.pointer ∧ t.txe.nextSeq = s.txe.nextSeq ∧ t.txe.bcastSeq = s.txe.bcastSeq ∧
      t.txe.free = s.txe.free ∧ t.dlt = { s.dlt with done := s.dlt.done ++ noDestinations s 15 } ∧
      t.lif = s.lif ∧ t.fru = s.fru ∧ t.sync = s.sync ∧ t.ptu = s.ptu ∧ t.rcm = s.rcm ∧ t.cru = s.cru ∧
      t.rxe = s.rxe ∧ t.cfg = s.cfg ∧
      (t.isPending .doneReady = true ↔ s.isPending .doneReady = true ∨
        (s.dlt.done = [] ∧ noDestinations s 15 ≠ []))

/-- R105, R109, R134, R136: where entries are DUE, the one that became DUE first is sent again, before any class
queue: its attempts grow by one and it waits again from age 0, in its place in the list. -/
def Obligations.DueEntryIsSentFirst : Prop :=
  ∀ (k : Phase) (s : State), s.sync.state = .active → s.slotTiming = true → s.ptu.table[k] = .owned s.own →
    RetryListSound s.dlt.retry → (∃ e ∈ s.dlt.retry, e.due ≠ none) →
    ∃ (before after : List RetryEntry) (e : RetryEntry) (d : Byte), s.dlt.retry = before ++ e :: after ∧
      e.due = some d ∧
      (∀ x ∈ before ++ after, ∀ y, x.due = some y → (d - s.dlt.dueCounter).toNat ≤ (y - s.dlt.dueCounter).toNat) ∧
      exec (.dataPhase k) s = .next { s with
        lif := { s.lif with tx := some { frame := .data k none, bytes := (DataFrame.bytes
          { source := finByte s.own, dest := e.frame.dest.byte, cls := e.frame.cls.byte, seq := e.frame.seq.getD 0#8
            payload := e.frame.payload }) } }
        dlt := { s.dlt with retry := before ++ { e with
          frame := { e.frame with attempts := e.frame.attempts + 1 }, age := 0, due := none } :: after } }

/-- R106 to R110: with nothing DUE the walk serves the first entry, from the pointer on, whose class has an eligible
head once its absent heads are dropped; heads that cannot be sent are passed over, and absent ones, with frames behind
them or not, complete NO_DESTINATION in the order in which they are met. A unicast to a present destination with room in
the retry list and no entry there takes that destination's next sequence, moves from its queue to the retry list and is
sent; a broadcast is always sent: it takes the broadcast sequence and stays at the head of its queue until its
read-back. That a broadcast which has a sequence already keeps it, and takes no new one, is the model's choice (log entry
12). The pointer moves to the entry after the one served. -/
def Obligations.HeadsAreSentFromTheirQueue : Prop :=
  ∀ (k : Phase) (j : Fin 16) (c : Cls) (f : TxFrame) (rest : List TxFrame) (s : State), s.sync.state = .active →
    s.slotTiming = true → s.ptu.table[k] = .owned s.own → (∀ e ∈ s.dlt.retry, e.due = none) →
    (∀ i : Fin 16, i < j → servable s (classAt s i) = false) → c = classAt s j → liveQueue s c = f :: rest →
    canSend s f = true → ∃ t, exec (.dataPhase k) s = .next t ∧
      t.txe.pointer = s.txe.pointer + j + 1 ∧ t.txe.free = s.txe.free ∧
      (∀ c', c' ≠ c → t.txe.queue c' = if c' ∈ examined s j then liveQueue s c' else s.txe.queue c') ∧
      t.dlt.done = s.dlt.done ++ noDestinations s j ∧ t.dlt.dueCounter = s.dlt.dueCounter ∧
      (t.isPending .doneReady = true ↔ s.isPending .doneReady = true ∨
        (s.dlt.done = [] ∧ noDestinations s j ≠ [])) ∧
      t.sync = s.sync ∧ t.ptu = s.ptu ∧ t.rcm = s.rcm ∧ t.cru = s.cru ∧ t.rxe = s.rxe ∧ t.fru = s.fru ∧
      t.cfg = s.cfg ∧
      (∀ d : Addr, f.dest = .unicast d →
        t.lif = { s.lif with tx := some { frame := .data k none, bytes := dataBytes s f s.txe.nextSeq[d] } } ∧
        t.txe.queue c = rest ∧ t.txe.nextSeq = s.txe.nextSeq.set d (s.txe.nextSeq[d] + 1#8) ∧
        t.txe.bcastSeq = s.txe.bcastSeq ∧
        t.dlt.retry = s.dlt.retry ++ [{ frame := { f with seq := some s.txe.nextSeq[d], attempts := 1 }, age := 0,
                                        due := none, closed := false }]) ∧
      (f.dest = .broadcast →
        t.lif = { s.lif with tx := some {
          frame := .data k (some c), bytes := dataBytes s f (f.seq.getD s.txe.bcastSeq) } } ∧
        t.txe.queue c = { f with seq := some (f.seq.getD s.txe.bcastSeq), attempts := 1 } :: rest ∧
        t.txe.nextSeq = s.txe.nextSeq ∧ t.dlt.retry = s.dlt.retry ∧
        t.txe.bcastSeq = if f.seq = none then s.txe.bcastSeq + 1#8 else s.txe.bcastSeq)

/-! ## Timers and the LEAVE -/

/-- R90, R92, R94: the listen timer. In LISTENING it starts the takeover timer at the own delay; in LEARNING, JOINING
and RELEARN, with the cycle suspended, it takes the station to LISTENING, its retry entries closed, or, with a
withdraw pending, to WITHDRAWN. Stopped, it does not expire. R17, R156: the line-fault timer records LINE_FAULT and,
in a state on the line, withdraws the station. Stopped, it does not expire. R94, R95: with a withdraw pending the own
roll slot carries a LEAVE, and the station is WITHDRAWN at its end. Where the rules do not let the command arise, that
the state stands is the model's choice (log entry 2). -/
def Obligations.ListenAndLineFaultTimersAndTheLeave : Prop :=
  ((∀ (n : Nat) (s : State), s.sync.listenTimer = .running n → s.sync.state = .listening →
    exec .listenTimerExpiry s = .next { s with sync := { s.sync with
      listenTimer := .stopped, takeoverTimer := .running ((s.own.val + 1) * 300) } }) ∧
  (∀ (n : Nat) (s : State), s.sync.listenTimer = .running n →
    s.sync.state = .learning ∨ s.sync.state = .joining ∨ s.sync.state = .relearn → s.sync.withdrawPending = false →
    exec .listenTimerExpiry s = .next { listeningFrom s with
      lif := s.lif
      dlt := { s.dlt with retry := s.dlt.retry.map fun e => { e with closed := true, due := none } } }) ∧
  (∀ (n : Nat) (s : State), s.sync.listenTimer = .running n → s.sync.state = .relearn →
    s.sync.withdrawPending = true → ∃ t, exec .listenTimerExpiry s = .next t ∧ WithdrawnFrom s t) ∧
  ∀ s : State, s.sync.listenTimer = .stopped → exec .listenTimerExpiry s = .next s) ∧
  ((∀ (n : Nat) (s : State), s.lif.lineFaultTimer = .running n → s.sync.state.onLine = true →
    ∃ t, exec .lineFaultTimerExpiry s = .next t ∧ WithdrawnFrom (recordFault .lineFault .none
      { s with lif := { s.lif with lineFaultTimer := .stopped } }) t) ∧
  ∀ s : State, s.lif.lineFaultTimer = .stopped → exec .lineFaultTimerExpiry s = .next s) ∧
  ((∀ s : State, s.slotTiming = true → s.sync.state = .active ∨ s.sync.state = .relearn →
    s.sync.withdrawPending = true → ∃ w : RollWord, w.leave = true ∧ w.join = false ∧ w.relearning = false ∧
      w.releaseAll = false ∧ w.claims = [] ∧ w.releases = [] ∧ w.sender = finByte s.own ∧
      w.degraded = degradedFlag s.fru ∧ w.digest = s.ptu.digest.getD 0xFFFF#16 ∧
      w.acks = (s.rxe.acks.take 4).map (fun p => (finByte p.1, p.2)) ∧
      exec .ownRollSlot s = .next { s with
        lif := { s.lif with tx := some { frame := .roll w, bytes := w.bytes } }
        sync := { s.sync with leaveSent := true }
        rxe := { s.rxe with acks := s.rxe.acks.drop 4 } }) ∧
  (∀ s : State, s.sync.leaveSent = true → ∃ t, exec .leaveSlotEnd s = .next t ∧ WithdrawnFrom s t) ∧
  ∀ s : State, s.sync.leaveSent = false → exec .leaveSlotEnd s = .next s)

/-- R33, R54, R85, R92: the takeover timer in LISTENING founds the bus: ACTIVE and holder, cycle 0 running, every entry
VACANT and every segment known, the own address alone present with count 0, and the first marker on the line. R24, R85,
R91, R94: the takeover timer in a suspended ACTIVE station makes it holder, and its marker begins the next cycle with
its configured absence limit, its map, its digest and the segment of that cycle; with a withdraw pending the station is
WITHDRAWN instead. Stopped, the timer does not expire. Where the rules do not let the command arise, that the state
stands is the model's choice (log entry 2). -/
def Obligations.TakeoverTimerFoundsOrTakesTheTiming : Prop :=
  (∀ (n : Nat) (s : State), s.sync.takeoverTimer = .running n → s.sync.state = .listening →
    ∃ (t : State) (m : Marker), exec .takeoverTimerExpiry s = .next t ∧
      t.sync = { Sync.reset with
        state := .active, cond := .running, holder := true, holderAddr := some s.own, cycleNumber := some 0#16 } ∧
      (∀ k : Phase, t.ptu.table[k] = .vacant) ∧ (∀ g : Fin 8, t.ptu.known[g] = true) ∧
      t.ptu.digest = some (crc16 (List.replicate 96 0x00#8)) ∧
      (∀ a : Addr, t.rcm.presence[a] = if a = s.own then some 0 else none) ∧
      t.rcm.absenceLimit = s.cfg.config.absenceLimit ∧ (∀ a : Addr, t.rcm.degraded[a] = false) ∧
      t.lif = { s.lif with
        tx := some { frame := .marker, bytes := m.bytes }, rollDone := Vector.replicate 32 false
        phaseDone := Vector.replicate 96 false } ∧
      m.number = 0#16 ∧ m.holder = s.own ∧ m.limit = s.cfg.config.absenceLimit ∧ m.presence = t.rcm.presence ∧
      m.digest = crc16 (List.replicate 96 0x00#8) ∧ m.segment = Vector.replicate 12 0x00#8 ∧
      t.isPending .syncState = true ∧ t.isPending .holder = true ∧ t.cru = s.cru ∧ t.rxe = s.rxe ∧ t.cfg = s.cfg ∧
      (s.dlt.retry = [] → t.dlt = s.dlt ∧ t.fru = s.fru)) ∧
  ((∀ (n : Nat) (c : Half) (s : State), s.sync.takeoverTimer = .running n → s.sync.state = .active →
    s.sync.cond = .suspended → s.sync.withdrawPending = false → s.sync.cycleNumber = some c →
    ∃ (t : State) (m : Marker), exec .takeoverTimerExpiry s = .next t ∧
      t.sync = { s.sync with
        cond := .running, holder := true, holderAddr := some s.own, holderVacant := false, lost := 0
        cycleNumber := some (c + 1#16), takeoverTimer := .stopped, markerDone := false, leaveSent := false
        cycleShift := 0 } ∧
      t.rcm.absenceLimit = s.cfg.config.absenceLimit ∧ t.rcm.presence = s.rcm.presence ∧
      t.lif = { s.lif with
        tx := some { frame := .marker, bytes := m.bytes }, rollDone := Vector.replicate 32 false
        phaseDone := Vector.replicate 96 false } ∧
      m.number = c + 1#16 ∧ m.holder = s.own ∧ m.limit = s.cfg.config.absenceLimit ∧ m.presence = s.rcm.presence ∧
      m.digest = s.ptu.digest.getD 0xFFFF#16 ∧
      (∀ i : Fin 12, m.segment[i] = (s.ptu.table[12 * ((c + 1#16).toNat % 8) + i.val]'(by omega)).byte) ∧
      t.isPending .holder = true ∧ t.ptu = s.ptu ∧ t.cru = s.cru ∧
      t.rxe = s.rxe ∧ t.cfg = s.cfg) ∧
  (∀ (n : Nat) (s : State), s.sync.takeoverTimer = .running n → s.sync.state = .active → s.sync.cond = .suspended →
    s.sync.withdrawPending = true → ∃ t, exec .takeoverTimerExpiry s = .next t ∧ WithdrawnFrom s t) ∧
  ∀ s : State, s.sync.takeoverTimer = .stopped → exec .takeoverTimerExpiry s = .next s)

/-! ## Line formats -/

/-- R5, R186, R187: the bytes of a start marker whose limit is 2..7 and whose counts are 0..7 are an intact marker and
read back as that marker. R5, R188: the bytes of a roll word with at most 8 claims, 8 releases and 4 acks are an intact
roll word of 9 to 33 bytes and read back as that roll word. R5, R189: the bytes of a data frame whose payload has at
most 60 bytes, a multiple of 4, are an intact data frame and read back as that frame. R2: of a transmission on record
nothing is driven in the first 8 bit times of its slot; then the preamble AAh, the start delimiter B3h and its bytes,
each most significant bit first; then the driver is released. That the bits are a function of the bit time, since no
command brings single bits, is log entry 28. -/
def Obligations.LineFormatsRoundTrip : Prop :=
  (∀ m : Marker, 2 ≤ m.limit → m.limit ≤ 7 → (∀ (a : Addr) (n : Nat), m.presence[a] = some n → n ≤ 7) →
    m.bytes.length = 37 ∧ parseMarker m.bytes = some m) ∧
  (∀ w : RollWord, w.claims.length ≤ 8 → w.releases.length ≤ 8 → w.acks.length ≤ 4 →
    w.bytes.length = 9 + w.claims.length + w.releases.length + 2 * w.acks.length ∧ parseRollWord w.bytes = some w) ∧
  (∀ f : DataFrame, f.payload.length ≤ 60 → f.payload.length % 4 = 0 →
    f.bytes.length = 10 + f.payload.length ∧ parseDataFrame f.bytes = some f) ∧
  (∀ s : State, s.lif.tx = none → ∀ t : Nat, s.drivenBit t = none ∧ s.driving t = false) ∧
  ∀ (x : TxRecord) (s : State), s.lif.tx = some x →
    (∀ t : Nat, s.driving t = true ↔ 8 ≤ t ∧ t < 24 + 8 * x.bytes.length) ∧
    (∀ t : Nat, s.driving t = false → s.drivenBit t = none) ∧
    (∀ j : Nat, j < 8 → s.drivenBit (8 + j) = some ((0xAA#8).getLsbD (7 - j)) ∧
      s.drivenBit (16 + j) = some ((0xB3#8).getLsbD (7 - j))) ∧
    ∀ (i j : Nat) (h : i < x.bytes.length), j < 8 →
      s.drivenBit (24 + 8 * i + j) = some ((x.bytes[i]).getLsbD (7 - j))

/-! ## Invariants that every step keeps -/

/-- Tier 1: State.reset meets every invariant below. The clauses on the configuration and the absence limit, which hold
no value the spec gives before START, hold by the model's choice (log entry 7). -/
def Obligations.ResetIsSound : Prop :=
  State.reset.pool = 48 ∧ RetryListSound State.reset.dlt.retry ∧ ReceiveSound State.reset.own State.reset.rxe ∧
    TimingSound State.reset ∧ TableSound State.reset ∧ PresenceSound State.reset.rcm ∧ ClaimsSound State.reset ∧
    FaultsSound State.reset.fru ∧ ConfigurationSound State.reset.cfg.config ∧ StartSound State.reset

/-- R97: the 48 buffers of the pool. FREE, QUEUED, AWAITING_ACK and DONE ones add up to 48 after every step. -/
def Obligations.ThePoolKeepsItsBuffers : Prop :=
  ∀ s t : State, s.pool = 48 → step s = .next t → t.pool = 48

/-- R106, R131: the retry list holds at most 16 entries, one per destination, no broadcast, after every step. -/
def Obligations.TheRetryListStaysSound : Prop :=
  ∀ s t : State, RetryListSound s.dlt.retry → step s = .next t → RetryListSound t.dlt.retry

/-- R126, R128: the receive queue and the ack list keep their bounds after every step; START, which sets the own
address, finds them at their reset values. -/
def Obligations.TheReceiveSideStaysSound : Prop :=
  ∀ s t : State, StartSound s → ReceiveSound s.own s.rxe → step s = .next t → ReceiveSound t.own t.rxe

/-- R77, R84, R88, R96: the holder flag, the cycle condition, the cycle number, the withdraw flag and the lost count
stay in step with the sync state after every step. R10, R13: a reception is in progress only where the receiver
runs. That a holder address is there in every timed state holds, after the second failed read-back of the own marker,
by the model's choice: the address stands at that yield (R86), of which the spec says nothing (log entry 30). -/
def Obligations.TheTimingStaysSound : Prop :=
  ∀ s t : State, StartSound s → TimingSound s → step s = .next t → TimingSound t

/-- R19, R22, R34: what the table holds in each sync state, and its digest, after every step. -/
def Obligations.TheTableStaysSound : Prop :=
  ∀ s t : State, StartSound s → TableSound s → step s = .next t → TableSound t

/-- R49, R53, R187: no absent address is degraded, no count passes 7 and the absence limit stays 2..7, after every step.
That the limit is in its range from a power-on, pin or soft reset until START sets it (R54) is the model's choice: it
reads as the default (log entry 7). -/
def Obligations.ThePresenceMapStaysSound : Prop :=
  ∀ s t : State, ConfigurationSound s.cfg.config → PresenceSound s.rcm → step s = .next t → PresenceSound t.rcm

/-- R55, R62, R63, R66: claims and releases are held in ACTIVE only, within their bounds, after every step. That the
attempts of a claim never pass 4 is the model's reading of their range (R60, log entry 10). -/
def Obligations.ClaimsAndReleasesStaySound : Prop :=
  ∀ s t : State, StartSound s → ClaimsSound s → step s = .next t → ClaimsSound t

/-- R150 to R152: counts, seen flags, the first-fault record and the highest severity agree after every step. -/
def Obligations.TheFaultRecordStaysSound : Prop :=
  ∀ s t : State, FaultsSound s.fru → step s = .next t → FaultsSound t.fru

/-- R160, R165: the configuration keeps its ranges after every step. R166, R168, R169: until START ends, LIF, SYNC, PTU,
RCM, CRU, TXE, DLT and RXE keep their reset values, after every step. For the configuration between a reset and START,
and for the absence limit and the patterns, which get their values in START, these are the model's choice (log entry 7).
-/
def Obligations.StartAndConfigurationStaySound : Prop :=
  (∀ s t : State, ConfigurationSound s.cfg.config → step s = .next t → ConfigurationSound t.cfg.config) ∧
  ∀ s t : State, StartSound s → step s = .next t → StartSound t

/-! ## Rules over all commands -/

/-- R151, R158, R159, R168: a first-fault record that is filled stays as it is through every command but CLEAR_FAULTS
and a power-on reset. R160, R165, R168: the configuration in force and the straps change at no command but a reset,
the commands of START and the rising edge that carries out a soft reset. R180, R183: a pending event stays pending
through every command but ACK_EVENTS, a reset and the commands of START. -/
def Obligations.RecordsThatOutlastCommands : Prop :=
  (∀ (i : Instr) (s t : State) (f : FirstFault), s.fru.first = some f → i ≠ .powerOnReset →
    (∀ l, i ≠ .clearFaults l) → exec i s = .next t → t.fru.first = some f) ∧
  (∀ (i : Instr) (s t : State), exec i s = .next t → i ≠ .powerOnReset → i ≠ .pinReset → (∀ p n, i ≠ .start p n) →
    (∀ r, i ≠ .readAttemptEnd r) → (∀ n, i ≠ .sclHoldTimeout n) → (∀ n, i ≠ .retryWaitExpiry n) →
    (∀ n, i ≠ .transactionEnd n ∨ s.hp.softReset = false) → t.cfg = s.cfg) ∧
  ∀ (i : Instr) (s t : State) (e : Event), exec i s = .next t → s.isPending e = true → (∀ l, i ≠ .ackEvents l) →
    i ≠ .powerOnReset → i ≠ .pinReset → (∀ p n, i ≠ .start p n) → (∀ r, i ≠ .readAttemptEnd r) →
    (∀ n, i ≠ .sclHoldTimeout n) → (∀ n, i ≠ .retryWaitExpiry n) →
    (∀ n, i ≠ .transactionEnd n ∨ s.hp.softReset = false) → t.isPending e = true

/-- R11, R35, R85, R104: what a station puts on the line. A step that leaves a transmission on record that was not
there before has put a start marker there as holder, a roll word of its own in its roll slot, or a data frame in a
phase that its table gives it while ACTIVE. -/
def Obligations.AStationDrivesOnlyItsOwnSlots : Prop :=
  ∀ (i : Instr) (s t : State) (x : TxRecord), exec i s = .next t → t.lif.tx = some x → s.lif.tx ≠ some x →
    match x.frame with
    | .marker => t.sync.holder = true ∧ t.sync.state.timed = true
    | .roll w => i = .ownRollSlot ∧ w.sender = finByte s.own ∧
        (s.sync.state = .joining ∨ s.sync.state = .active ∨ s.sync.state = .relearn)
    | .data k _ => i = .dataPhase k ∧ s.sync.state = .active ∧ s.ptu.table[k] = .owned s.own

end Statements
end

