-- ==== Sys2Proof/Laws/State.lean ====
section
/-!
SUPPORT. One lemma per block per update of `State`: what a block reads after one block has been replaced.
-/

namespace Sys2Proof.Machine

@[simp] theorem State.withLif_lif (s : State) (v : Lif) : (s.withLif v).lif = v := rfl
@[simp] theorem State.withLif_sync (s : State) (v : Lif) : (s.withLif v).sync = s.sync := rfl
@[simp] theorem State.withLif_ptu (s : State) (v : Lif) : (s.withLif v).ptu = s.ptu := rfl
@[simp] theorem State.withLif_rcm (s : State) (v : Lif) : (s.withLif v).rcm = s.rcm := rfl
@[simp] theorem State.withLif_cru (s : State) (v : Lif) : (s.withLif v).cru = s.cru := rfl
@[simp] theorem State.withLif_txe (s : State) (v : Lif) : (s.withLif v).txe = s.txe := rfl
@[simp] theorem State.withLif_dlt (s : State) (v : Lif) : (s.withLif v).dlt = s.dlt := rfl
@[simp] theorem State.withLif_rxe (s : State) (v : Lif) : (s.withLif v).rxe = s.rxe := rfl
@[simp] theorem State.withLif_fru (s : State) (v : Lif) : (s.withLif v).fru = s.fru := rfl
@[simp] theorem State.withLif_cfg (s : State) (v : Lif) : (s.withLif v).cfg = s.cfg := rfl
@[simp] theorem State.withLif_hp (s : State) (v : Lif) : (s.withLif v).hp = s.hp := rfl
@[simp] theorem State.withLif_pending (s : State) (v : Lif) : (s.withLif v).pending = s.pending := rfl

@[simp] theorem State.withSync_lif (s : State) (v : Sync) : (s.withSync v).lif = s.lif := rfl
@[simp] theorem State.withSync_sync (s : State) (v : Sync) : (s.withSync v).sync = v := rfl
@[simp] theorem State.withSync_ptu (s : State) (v : Sync) : (s.withSync v).ptu = s.ptu := rfl
@[simp] theorem State.withSync_rcm (s : State) (v : Sync) : (s.withSync v).rcm = s.rcm := rfl
@[simp] theorem State.withSync_cru (s : State) (v : Sync) : (s.withSync v).cru = s.cru := rfl
@[simp] theorem State.withSync_txe (s : State) (v : Sync) : (s.withSync v).txe = s.txe := rfl
@[simp] theorem State.withSync_dlt (s : State) (v : Sync) : (s.withSync v).dlt = s.dlt := rfl
@[simp] theorem State.withSync_rxe (s : State) (v : Sync) : (s.withSync v).rxe = s.rxe := rfl
@[simp] theorem State.withSync_fru (s : State) (v : Sync) : (s.withSync v).fru = s.fru := rfl
@[simp] theorem State.withSync_cfg (s : State) (v : Sync) : (s.withSync v).cfg = s.cfg := rfl
@[simp] theorem State.withSync_hp (s : State) (v : Sync) : (s.withSync v).hp = s.hp := rfl
@[simp] theorem State.withSync_pending (s : State) (v : Sync) : (s.withSync v).pending = s.pending := rfl

@[simp] theorem State.withPtu_lif (s : State) (v : Ptu) : (s.withPtu v).lif = s.lif := rfl
@[simp] theorem State.withPtu_sync (s : State) (v : Ptu) : (s.withPtu v).sync = s.sync := rfl
@[simp] theorem State.withPtu_ptu (s : State) (v : Ptu) : (s.withPtu v).ptu = v := rfl
@[simp] theorem State.withPtu_rcm (s : State) (v : Ptu) : (s.withPtu v).rcm = s.rcm := rfl
@[simp] theorem State.withPtu_cru (s : State) (v : Ptu) : (s.withPtu v).cru = s.cru := rfl
@[simp] theorem State.withPtu_txe (s : State) (v : Ptu) : (s.withPtu v).txe = s.txe := rfl
@[simp] theorem State.withPtu_dlt (s : State) (v : Ptu) : (s.withPtu v).dlt = s.dlt := rfl
@[simp] theorem State.withPtu_rxe (s : State) (v : Ptu) : (s.withPtu v).rxe = s.rxe := rfl
@[simp] theorem State.withPtu_fru (s : State) (v : Ptu) : (s.withPtu v).fru = s.fru := rfl
@[simp] theorem State.withPtu_cfg (s : State) (v : Ptu) : (s.withPtu v).cfg = s.cfg := rfl
@[simp] theorem State.withPtu_hp (s : State) (v : Ptu) : (s.withPtu v).hp = s.hp := rfl
@[simp] theorem State.withPtu_pending (s : State) (v : Ptu) : (s.withPtu v).pending = s.pending := rfl

@[simp] theorem State.withRcm_lif (s : State) (v : Rcm) : (s.withRcm v).lif = s.lif := rfl
@[simp] theorem State.withRcm_sync (s : State) (v : Rcm) : (s.withRcm v).sync = s.sync := rfl
@[simp] theorem State.withRcm_ptu (s : State) (v : Rcm) : (s.withRcm v).ptu = s.ptu := rfl
@[simp] theorem State.withRcm_rcm (s : State) (v : Rcm) : (s.withRcm v).rcm = v := rfl
@[simp] theorem State.withRcm_cru (s : State) (v : Rcm) : (s.withRcm v).cru = s.cru := rfl
@[simp] theorem State.withRcm_txe (s : State) (v : Rcm) : (s.withRcm v).txe = s.txe := rfl
@[simp] theorem State.withRcm_dlt (s : State) (v : Rcm) : (s.withRcm v).dlt = s.dlt := rfl
@[simp] theorem State.withRcm_rxe (s : State) (v : Rcm) : (s.withRcm v).rxe = s.rxe := rfl
@[simp] theorem State.withRcm_fru (s : State) (v : Rcm) : (s.withRcm v).fru = s.fru := rfl
@[simp] theorem State.withRcm_cfg (s : State) (v : Rcm) : (s.withRcm v).cfg = s.cfg := rfl
@[simp] theorem State.withRcm_hp (s : State) (v : Rcm) : (s.withRcm v).hp = s.hp := rfl
@[simp] theorem State.withRcm_pending (s : State) (v : Rcm) : (s.withRcm v).pending = s.pending := rfl

@[simp] theorem State.withCru_lif (s : State) (v : Cru) : (s.withCru v).lif = s.lif := rfl
@[simp] theorem State.withCru_sync (s : State) (v : Cru) : (s.withCru v).sync = s.sync := rfl
@[simp] theorem State.withCru_ptu (s : State) (v : Cru) : (s.withCru v).ptu = s.ptu := rfl
@[simp] theorem State.withCru_rcm (s : State) (v : Cru) : (s.withCru v).rcm = s.rcm := rfl
@[simp] theorem State.withCru_cru (s : State) (v : Cru) : (s.withCru v).cru = v := rfl
@[simp] theorem State.withCru_txe (s : State) (v : Cru) : (s.withCru v).txe = s.txe := rfl
@[simp] theorem State.withCru_dlt (s : State) (v : Cru) : (s.withCru v).dlt = s.dlt := rfl
@[simp] theorem State.withCru_rxe (s : State) (v : Cru) : (s.withCru v).rxe = s.rxe := rfl
@[simp] theorem State.withCru_fru (s : State) (v : Cru) : (s.withCru v).fru = s.fru := rfl
@[simp] theorem State.withCru_cfg (s : State) (v : Cru) : (s.withCru v).cfg = s.cfg := rfl
@[simp] theorem State.withCru_hp (s : State) (v : Cru) : (s.withCru v).hp = s.hp := rfl
@[simp] theorem State.withCru_pending (s : State) (v : Cru) : (s.withCru v).pending = s.pending := rfl

@[simp] theorem State.withTxe_lif (s : State) (v : Txe) : (s.withTxe v).lif = s.lif := rfl
@[simp] theorem State.withTxe_sync (s : State) (v : Txe) : (s.withTxe v).sync = s.sync := rfl
@[simp] theorem State.withTxe_ptu (s : State) (v : Txe) : (s.withTxe v).ptu = s.ptu := rfl
@[simp] theorem State.withTxe_rcm (s : State) (v : Txe) : (s.withTxe v).rcm = s.rcm := rfl
@[simp] theorem State.withTxe_cru (s : State) (v : Txe) : (s.withTxe v).cru = s.cru := rfl
@[simp] theorem State.withTxe_txe (s : State) (v : Txe) : (s.withTxe v).txe = v := rfl
@[simp] theorem State.withTxe_dlt (s : State) (v : Txe) : (s.withTxe v).dlt = s.dlt := rfl
@[simp] theorem State.withTxe_rxe (s : State) (v : Txe) : (s.withTxe v).rxe = s.rxe := rfl
@[simp] theorem State.withTxe_fru (s : State) (v : Txe) : (s.withTxe v).fru = s.fru := rfl
@[simp] theorem State.withTxe_cfg (s : State) (v : Txe) : (s.withTxe v).cfg = s.cfg := rfl
@[simp] theorem State.withTxe_hp (s : State) (v : Txe) : (s.withTxe v).hp = s.hp := rfl
@[simp] theorem State.withTxe_pending (s : State) (v : Txe) : (s.withTxe v).pending = s.pending := rfl

@[simp] theorem State.withDlt_lif (s : State) (v : Dlt) : (s.withDlt v).lif = s.lif := rfl
@[simp] theorem State.withDlt_sync (s : State) (v : Dlt) : (s.withDlt v).sync = s.sync := rfl
@[simp] theorem State.withDlt_ptu (s : State) (v : Dlt) : (s.withDlt v).ptu = s.ptu := rfl
@[simp] theorem State.withDlt_rcm (s : State) (v : Dlt) : (s.withDlt v).rcm = s.rcm := rfl
@[simp] theorem State.withDlt_cru (s : State) (v : Dlt) : (s.withDlt v).cru = s.cru := rfl
@[simp] theorem State.withDlt_txe (s : State) (v : Dlt) : (s.withDlt v).txe = s.txe := rfl
@[simp] theorem State.withDlt_dlt (s : State) (v : Dlt) : (s.withDlt v).dlt = v := rfl
@[simp] theorem State.withDlt_rxe (s : State) (v : Dlt) : (s.withDlt v).rxe = s.rxe := rfl
@[simp] theorem State.withDlt_fru (s : State) (v : Dlt) : (s.withDlt v).fru = s.fru := rfl
@[simp] theorem State.withDlt_cfg (s : State) (v : Dlt) : (s.withDlt v).cfg = s.cfg := rfl
@[simp] theorem State.withDlt_hp (s : State) (v : Dlt) : (s.withDlt v).hp = s.hp := rfl
@[simp] theorem State.withDlt_pending (s : State) (v : Dlt) : (s.withDlt v).pending = s.pending := rfl

@[simp] theorem State.withRxe_lif (s : State) (v : Rxe) : (s.withRxe v).lif = s.lif := rfl
@[simp] theorem State.withRxe_sync (s : State) (v : Rxe) : (s.withRxe v).sync = s.sync := rfl
@[simp] theorem State.withRxe_ptu (s : State) (v : Rxe) : (s.withRxe v).ptu = s.ptu := rfl
@[simp] theorem State.withRxe_rcm (s : State) (v : Rxe) : (s.withRxe v).rcm = s.rcm := rfl
@[simp] theorem State.withRxe_cru (s : State) (v : Rxe) : (s.withRxe v).cru = s.cru := rfl
@[simp] theorem State.withRxe_txe (s : State) (v : Rxe) : (s.withRxe v).txe = s.txe := rfl
@[simp] theorem State.withRxe_dlt (s : State) (v : Rxe) : (s.withRxe v).dlt = s.dlt := rfl
@[simp] theorem State.withRxe_rxe (s : State) (v : Rxe) : (s.withRxe v).rxe = v := rfl
@[simp] theorem State.withRxe_fru (s : State) (v : Rxe) : (s.withRxe v).fru = s.fru := rfl
@[simp] theorem State.withRxe_cfg (s : State) (v : Rxe) : (s.withRxe v).cfg = s.cfg := rfl
@[simp] theorem State.withRxe_hp (s : State) (v : Rxe) : (s.withRxe v).hp = s.hp := rfl
@[simp] theorem State.withRxe_pending (s : State) (v : Rxe) : (s.withRxe v).pending = s.pending := rfl

@[simp] theorem State.withFru_lif (s : State) (v : Fru) : (s.withFru v).lif = s.lif := rfl
@[simp] theorem State.withFru_sync (s : State) (v : Fru) : (s.withFru v).sync = s.sync := rfl
@[simp] theorem State.withFru_ptu (s : State) (v : Fru) : (s.withFru v).ptu = s.ptu := rfl
@[simp] theorem State.withFru_rcm (s : State) (v : Fru) : (s.withFru v).rcm = s.rcm := rfl
@[simp] theorem State.withFru_cru (s : State) (v : Fru) : (s.withFru v).cru = s.cru := rfl
@[simp] theorem State.withFru_txe (s : State) (v : Fru) : (s.withFru v).txe = s.txe := rfl
@[simp] theorem State.withFru_dlt (s : State) (v : Fru) : (s.withFru v).dlt = s.dlt := rfl
@[simp] theorem State.withFru_rxe (s : State) (v : Fru) : (s.withFru v).rxe = s.rxe := rfl
@[simp] theorem State.withFru_fru (s : State) (v : Fru) : (s.withFru v).fru = v := rfl
@[simp] theorem State.withFru_cfg (s : State) (v : Fru) : (s.withFru v).cfg = s.cfg := rfl
@[simp] theorem State.withFru_hp (s : State) (v : Fru) : (s.withFru v).hp = s.hp := rfl
@[simp] theorem State.withFru_pending (s : State) (v : Fru) : (s.withFru v).pending = s.pending := rfl

@[simp] theorem State.withCfg_lif (s : State) (v : Cfg) : (s.withCfg v).lif = s.lif := rfl
@[simp] theorem State.withCfg_sync (s : State) (v : Cfg) : (s.withCfg v).sync = s.sync := rfl
@[simp] theorem State.withCfg_ptu (s : State) (v : Cfg) : (s.withCfg v).ptu = s.ptu := rfl
@[simp] theorem State.withCfg_rcm (s : State) (v : Cfg) : (s.withCfg v).rcm = s.rcm := rfl
@[simp] theorem State.withCfg_cru (s : State) (v : Cfg) : (s.withCfg v).cru = s.cru := rfl
@[simp] theorem State.withCfg_txe (s : State) (v : Cfg) : (s.withCfg v).txe = s.txe := rfl
@[simp] theorem State.withCfg_dlt (s : State) (v : Cfg) : (s.withCfg v).dlt = s.dlt := rfl
@[simp] theorem State.withCfg_rxe (s : State) (v : Cfg) : (s.withCfg v).rxe = s.rxe := rfl
@[simp] theorem State.withCfg_fru (s : State) (v : Cfg) : (s.withCfg v).fru = s.fru := rfl
@[simp] theorem State.withCfg_cfg (s : State) (v : Cfg) : (s.withCfg v).cfg = v := rfl
@[simp] theorem State.withCfg_hp (s : State) (v : Cfg) : (s.withCfg v).hp = s.hp := rfl
@[simp] theorem State.withCfg_pending (s : State) (v : Cfg) : (s.withCfg v).pending = s.pending := rfl

@[simp] theorem State.withHp_lif (s : State) (v : Hp) : (s.withHp v).lif = s.lif := rfl
@[simp] theorem State.withHp_sync (s : State) (v : Hp) : (s.withHp v).sync = s.sync := rfl
@[simp] theorem State.withHp_ptu (s : State) (v : Hp) : (s.withHp v).ptu = s.ptu := rfl
@[simp] theorem State.withHp_rcm (s : State) (v : Hp) : (s.withHp v).rcm = s.rcm := rfl
@[simp] theorem State.withHp_cru (s : State) (v : Hp) : (s.withHp v).cru = s.cru := rfl
@[simp] theorem State.withHp_txe (s : State) (v : Hp) : (s.withHp v).txe = s.txe := rfl
@[simp] theorem State.withHp_dlt (s : State) (v : Hp) : (s.withHp v).dlt = s.dlt := rfl
@[simp] theorem State.withHp_rxe (s : State) (v : Hp) : (s.withHp v).rxe = s.rxe := rfl
@[simp] theorem State.withHp_fru (s : State) (v : Hp) : (s.withHp v).fru = s.fru := rfl
@[simp] theorem State.withHp_cfg (s : State) (v : Hp) : (s.withHp v).cfg = s.cfg := rfl
@[simp] theorem State.withHp_hp (s : State) (v : Hp) : (s.withHp v).hp = v := rfl
@[simp] theorem State.withHp_pending (s : State) (v : Hp) : (s.withHp v).pending = s.pending := rfl

@[simp] theorem State.withPending_lif (s : State) (v : List Instr) : (s.withPending v).lif = s.lif := rfl
@[simp] theorem State.withPending_sync (s : State) (v : List Instr) : (s.withPending v).sync = s.sync := rfl
@[simp] theorem State.withPending_ptu (s : State) (v : List Instr) : (s.withPending v).ptu = s.ptu := rfl
@[simp] theorem State.withPending_rcm (s : State) (v : List Instr) : (s.withPending v).rcm = s.rcm := rfl
@[simp] theorem State.withPending_cru (s : State) (v : List Instr) : (s.withPending v).cru = s.cru := rfl
@[simp] theorem State.withPending_txe (s : State) (v : List Instr) : (s.withPending v).txe = s.txe := rfl
@[simp] theorem State.withPending_dlt (s : State) (v : List Instr) : (s.withPending v).dlt = s.dlt := rfl
@[simp] theorem State.withPending_rxe (s : State) (v : List Instr) : (s.withPending v).rxe = s.rxe := rfl
@[simp] theorem State.withPending_fru (s : State) (v : List Instr) : (s.withPending v).fru = s.fru := rfl
@[simp] theorem State.withPending_cfg (s : State) (v : List Instr) : (s.withPending v).cfg = s.cfg := rfl
@[simp] theorem State.withPending_hp (s : State) (v : List Instr) : (s.withPending v).hp = s.hp := rfl
@[simp] theorem State.withPending_pending (s : State) (v : List Instr) : (s.withPending v).pending = v := rfl

end Sys2Proof.Machine
end

