-- ==== Sys2Proof/Laws/Frames.lean ====
section
/-!
SUPPORT. For each shared operation of Machine/Flags.lean and Machine/Ops.lean, one lemma that names every block it
leaves as it was.
-/

namespace Sys2Proof.Machine

/-- A reading of the state that every step of a fold keeps is kept by the fold. -/
theorem foldl_keeps {α β : Type} (p : State → β) (f : State → α → State) (h : ∀ s a, p (f s a) = p s)
    (l : List α) (s : State) : p (l.foldl f s) = p s := by
  induction l generalizing s with
  | nil => rfl
  | cons a l ih => rw [List.foldl_cons, ih, h]

@[simp] theorem post_frame (e : Event) (s : State) :
    (post e s).lif = s.lif ∧ (post e s).sync = s.sync ∧ (post e s).ptu = s.ptu ∧ (post e s).rcm = s.rcm ∧
      (post e s).cru = s.cru ∧ (post e s).txe = s.txe ∧ (post e s).dlt = s.dlt ∧ (post e s).rxe = s.rxe ∧
      (post e s).fru = s.fru ∧ (post e s).cfg = s.cfg ∧ (post e s).pending = s.pending := by
  and_intros <;> rfl

@[simp] theorem recordFault_frame (k : FaultKind) (ctx : FaultCtx) (s : State) :
    (recordFault k ctx s).lif = s.lif ∧ (recordFault k ctx s).sync = s.sync ∧ (recordFault k ctx s).ptu = s.ptu ∧
      (recordFault k ctx s).rcm = s.rcm ∧ (recordFault k ctx s).cru = s.cru ∧ (recordFault k ctx s).txe = s.txe ∧
      (recordFault k ctx s).dlt = s.dlt ∧ (recordFault k ctx s).rxe = s.rxe ∧ (recordFault k ctx s).cfg = s.cfg ∧
      (recordFault k ctx s).pending = s.pending := by
  and_intros <;> unfold recordFault <;> (try dsimp only) <;> (repeat' split) <;> simp

@[simp] theorem enter_frame (st : SyncState) (s : State) :
    (enter st s).lif = s.lif ∧ (enter st s).ptu = s.ptu ∧ (enter st s).rcm = s.rcm ∧ (enter st s).cru = s.cru ∧
      (enter st s).txe = s.txe ∧ (enter st s).dlt = s.dlt ∧ (enter st s).rxe = s.rxe ∧ (enter st s).fru = s.fru ∧
      (enter st s).cfg = s.cfg ∧ (enter st s).pending = s.pending := by
  and_intros <;> unfold enter <;> (try dsimp only) <;> (repeat' split) <;> simp

@[simp] theorem forgetTable_frame (s : State) :
    (forgetTable s).lif = s.lif ∧ (forgetTable s).sync = s.sync ∧ (forgetTable s).rcm = s.rcm ∧
      (forgetTable s).cru = s.cru ∧ (forgetTable s).txe = s.txe ∧ (forgetTable s).dlt = s.dlt ∧
      (forgetTable s).rxe = s.rxe ∧ (forgetTable s).fru = s.fru ∧ (forgetTable s).cfg = s.cfg ∧
      (forgetTable s).hp = s.hp ∧ (forgetTable s).pending = s.pending := by
  and_intros <;> rfl

@[simp] theorem complete_frame (st : DoneStatus) (f : TxFrame) (s : State) :
    (complete st f s).lif = s.lif ∧ (complete st f s).sync = s.sync ∧ (complete st f s).ptu = s.ptu ∧
      (complete st f s).rcm = s.rcm ∧ (complete st f s).cru = s.cru ∧ (complete st f s).txe = s.txe ∧
      (complete st f s).rxe = s.rxe ∧ (complete st f s).fru = s.fru ∧ (complete st f s).cfg = s.cfg ∧
      (complete st f s).pending = s.pending := by
  and_intros <;> unfold complete <;> (try dsimp only) <;> (repeat' split) <;> simp

@[simp] theorem flush_frame (s : State) :
    (flush s).lif = s.lif ∧ (flush s).sync = s.sync ∧ (flush s).ptu = s.ptu ∧ (flush s).rcm = s.rcm ∧
      (flush s).cru = s.cru ∧ (flush s).rxe = s.rxe ∧ (flush s).fru = s.fru ∧ (flush s).cfg = s.cfg ∧
      (flush s).pending = s.pending := by
  exact ⟨(foldl_keeps State.lif _ (fun _ _ => by simp) _ _).trans (by simp),
    (foldl_keeps State.sync _ (fun _ _ => by simp) _ _).trans (by simp),
    (foldl_keeps State.ptu _ (fun _ _ => by simp) _ _).trans (by simp),
    (foldl_keeps State.rcm _ (fun _ _ => by simp) _ _).trans (by simp),
    (foldl_keeps State.cru _ (fun _ _ => by simp) _ _).trans (by simp),
    (foldl_keeps State.rxe _ (fun _ _ => by simp) _ _).trans (by simp),
    (foldl_keeps State.fru _ (fun _ _ => by simp) _ _).trans (by simp),
    (foldl_keeps State.cfg _ (fun _ _ => by simp) _ _).trans (by simp),
    (foldl_keeps State.pending _ (fun _ _ => by simp) _ _).trans (by simp)⟩

@[simp] theorem finishEntry_frame (a : Addr) (st : DoneStatus) (s : State) :
    (finishEntry a st s).lif = s.lif ∧ (finishEntry a st s).sync = s.sync ∧ (finishEntry a st s).ptu = s.ptu ∧
      (finishEntry a st s).rcm = s.rcm ∧ (finishEntry a st s).cru = s.cru ∧ (finishEntry a st s).txe = s.txe ∧
      (finishEntry a st s).rxe = s.rxe ∧ (finishEntry a st s).fru = s.fru ∧ (finishEntry a st s).cfg = s.cfg ∧
      (finishEntry a st s).pending = s.pending := by
  and_intros <;> unfold finishEntry <;> (try dsimp only) <;> (repeat' split) <;> simp

@[simp] theorem closeEntries_frame (s : State) :
    (closeEntries s).lif = s.lif ∧ (closeEntries s).sync = s.sync ∧ (closeEntries s).ptu = s.ptu ∧
      (closeEntries s).rcm = s.rcm ∧ (closeEntries s).cru = s.cru ∧ (closeEntries s).txe = s.txe ∧
      (closeEntries s).rxe = s.rxe ∧ (closeEntries s).fru = s.fru ∧ (closeEntries s).cfg = s.cfg ∧
      (closeEntries s).hp = s.hp ∧ (closeEntries s).pending = s.pending := by
  and_intros <;> rfl

@[simp] theorem endClaim_frame (o : ClaimOutcome) (c : Claim) (s : State) :
    (endClaim o c s).lif = s.lif ∧ (endClaim o c s).sync = s.sync ∧ (endClaim o c s).ptu = s.ptu ∧
      (endClaim o c s).rcm = s.rcm ∧ (endClaim o c s).txe = s.txe ∧ (endClaim o c s).dlt = s.dlt ∧
      (endClaim o c s).rxe = s.rxe ∧ (endClaim o c s).fru = s.fru ∧ (endClaim o c s).cfg = s.cfg ∧
      (endClaim o c s).pending = s.pending := by
  and_intros <;> unfold endClaim <;> (try dsimp only) <;> (repeat' split) <;> simp

@[simp] theorem abortClaim_frame (s : State) :
    (abortClaim s).lif = s.lif ∧ (abortClaim s).sync = s.sync ∧ (abortClaim s).ptu = s.ptu ∧
      (abortClaim s).rcm = s.rcm ∧ (abortClaim s).txe = s.txe ∧ (abortClaim s).dlt = s.dlt ∧
      (abortClaim s).rxe = s.rxe ∧ (abortClaim s).fru = s.fru ∧ (abortClaim s).cfg = s.cfg ∧
      (abortClaim s).pending = s.pending := by
  and_intros <;> unfold abortClaim <;> (try dsimp only) <;> (repeat' split) <;> simp

@[simp] theorem abortReleases_frame (s : State) :
    (abortReleases s).lif = s.lif ∧ (abortReleases s).sync = s.sync ∧ (abortReleases s).ptu = s.ptu ∧
      (abortReleases s).rcm = s.rcm ∧ (abortReleases s).txe = s.txe ∧ (abortReleases s).dlt = s.dlt ∧
      (abortReleases s).rxe = s.rxe ∧ (abortReleases s).fru = s.fru ∧ (abortReleases s).cfg = s.cfg ∧
      (abortReleases s).pending = s.pending := by
  and_intros <;> unfold abortReleases <;> (try dsimp only) <;> (repeat' split) <;> simp

@[simp] theorem clearPresence_frame (s : State) :
    (clearPresence s).lif = s.lif ∧ (clearPresence s).sync = s.sync ∧ (clearPresence s).ptu = s.ptu ∧
      (clearPresence s).cru = s.cru ∧ (clearPresence s).txe = s.txe ∧ (clearPresence s).dlt = s.dlt ∧
      (clearPresence s).rxe = s.rxe ∧ (clearPresence s).fru = s.fru ∧ (clearPresence s).cfg = s.cfg ∧
      (clearPresence s).hp = s.hp ∧ (clearPresence s).pending = s.pending := by
  and_intros <;> rfl

@[simp] theorem emptyRecord_frame (s : State) :
    (emptyRecord s).lif = s.lif ∧ (emptyRecord s).sync = s.sync ∧ (emptyRecord s).ptu = s.ptu ∧
      (emptyRecord s).cru = s.cru ∧ (emptyRecord s).txe = s.txe ∧ (emptyRecord s).dlt = s.dlt ∧
      (emptyRecord s).rxe = s.rxe ∧ (emptyRecord s).fru = s.fru ∧ (emptyRecord s).cfg = s.cfg ∧
      (emptyRecord s).hp = s.hp ∧ (emptyRecord s).pending = s.pending := by
  and_intros <;> rfl

@[simp] theorem endReception_frame (s : State) :
    (endReception s).sync = s.sync ∧ (endReception s).ptu = s.ptu ∧ (endReception s).rcm = s.rcm ∧
      (endReception s).cru = s.cru ∧ (endReception s).txe = s.txe ∧ (endReception s).dlt = s.dlt ∧
      (endReception s).rxe = s.rxe ∧ (endReception s).fru = s.fru ∧ (endReception s).cfg = s.cfg ∧
      (endReception s).hp = s.hp ∧ (endReception s).pending = s.pending := by
  and_intros <;> rfl

@[simp] theorem rollHad_frame (k : Addr) (s : State) :
    (rollHad k s).sync = s.sync ∧ (rollHad k s).ptu = s.ptu ∧ (rollHad k s).rcm = s.rcm ∧
      (rollHad k s).cru = s.cru ∧ (rollHad k s).txe = s.txe ∧ (rollHad k s).dlt = s.dlt ∧
      (rollHad k s).rxe = s.rxe ∧ (rollHad k s).fru = s.fru ∧ (rollHad k s).cfg = s.cfg ∧
      (rollHad k s).hp = s.hp ∧ (rollHad k s).pending = s.pending := by
  and_intros <;> rfl

@[simp] theorem phaseHad_frame (k : Phase) (s : State) :
    (phaseHad k s).sync = s.sync ∧ (phaseHad k s).ptu = s.ptu ∧ (phaseHad k s).rcm = s.rcm ∧
      (phaseHad k s).cru = s.cru ∧ (phaseHad k s).txe = s.txe ∧ (phaseHad k s).dlt = s.dlt ∧
      (phaseHad k s).rxe = s.rxe ∧ (phaseHad k s).fru = s.fru ∧ (phaseHad k s).cfg = s.cfg ∧
      (phaseHad k s).hp = s.hp ∧ (phaseHad k s).pending = s.pending := by
  and_intros <;> rfl

@[simp] theorem freshSlots_frame (s : State) :
    (freshSlots s).sync = s.sync ∧ (freshSlots s).ptu = s.ptu ∧ (freshSlots s).rcm = s.rcm ∧
      (freshSlots s).cru = s.cru ∧ (freshSlots s).txe = s.txe ∧ (freshSlots s).dlt = s.dlt ∧
      (freshSlots s).rxe = s.rxe ∧ (freshSlots s).fru = s.fru ∧ (freshSlots s).cfg = s.cfg ∧
      (freshSlots s).hp = s.hp ∧ (freshSlots s).pending = s.pending := by
  and_intros <;> rfl

/-- R5, R13: what LIF can do with the bytes of a reception: take a reception that has ended, whole, with nothing of it
left in progress; hold one that has begun, where the receiver runs; or nothing. -/
theorem hear_cases (part : Part) (b : List Byte) (running : Bool) (take : List Byte → State → State) (s : State) :
    (part = .whole ∧ hear part b running take s = take b s) ∨
    (part = .begins ∧ running = true ∧ hear part b running take s = s.withLif { s.lif with rx := some b }) ∨
    (∃ first, part = .ends ∧ s.lif.rx = some first ∧
      hear part b running take s = take (first ++ b) (endReception s)) ∨
    hear part b running take s = s := by
  cases part
  · exact .inl ⟨rfl, rfl⟩
  · cases running
    · exact .inr (.inr (.inr rfl))
    · exact .inr (.inl ⟨rfl, rfl, rfl⟩)
  · cases h : s.lif.rx with
    | none => exact .inr (.inr (.inr (by simp [hear, h])))
    | some first => exact .inr (.inr (.inl ⟨first, rfl, rfl, by simp [hear, h]⟩))

@[simp] theorem tellDeparted_frame (a : Addr) (s : State) :
    (tellDeparted a s).lif = s.lif ∧ (tellDeparted a s).sync = s.sync ∧ (tellDeparted a s).ptu = s.ptu ∧
      (tellDeparted a s).rcm = s.rcm ∧ (tellDeparted a s).cru = s.cru ∧ (tellDeparted a s).fru = s.fru ∧
      (tellDeparted a s).cfg = s.cfg ∧ (tellDeparted a s).pending = s.pending := by
  and_intros <;> unfold tellDeparted <;> (try dsimp only) <;> (repeat' split) <;> simp

@[simp] theorem removePresent_frame (a : Addr) (s : State) :
    (removePresent a s).lif = s.lif ∧ (removePresent a s).sync = s.sync ∧ (removePresent a s).ptu = s.ptu ∧
      (removePresent a s).cru = s.cru ∧ (removePresent a s).txe = s.txe ∧ (removePresent a s).dlt = s.dlt ∧
      (removePresent a s).rxe = s.rxe ∧ (removePresent a s).fru = s.fru ∧ (removePresent a s).cfg = s.cfg ∧
      (removePresent a s).hp = s.hp ∧ (removePresent a s).pending = s.pending := by
  and_intros <;> rfl

@[simp] theorem noteDeparture_frame (a : Addr) (why : DepartReason) (s : State) :
    (noteDeparture a why s).lif = s.lif ∧ (noteDeparture a why s).sync = s.sync ∧
      (noteDeparture a why s).ptu = s.ptu ∧ (noteDeparture a why s).cru = s.cru ∧
      (noteDeparture a why s).txe = s.txe ∧ (noteDeparture a why s).dlt = s.dlt ∧
      (noteDeparture a why s).rxe = s.rxe ∧ (noteDeparture a why s).fru = s.fru ∧
      (noteDeparture a why s).cfg = s.cfg ∧ (noteDeparture a why s).pending = s.pending := by
  and_intros <;> unfold noteDeparture <;> (try dsimp only) <;> (repeat' split) <;> simp

@[simp] theorem departAtClose_frame (a : Addr) (why : DepartReason) (s : State) :
    (departAtClose a why s).lif = s.lif ∧ (departAtClose a why s).cru = s.cru ∧
      (departAtClose a why s).fru = s.fru ∧ (departAtClose a why s).cfg = s.cfg ∧
      (departAtClose a why s).pending = s.pending := by
  refine ⟨?_, ?_, ?_, ?_, ?_⟩ <;> unfold departAtClose <;> (try dsimp only) <;> (repeat' split) <;> simp

@[simp] theorem departAtMarker_frame (a : Addr) (s : State) :
    (departAtMarker a s).lif = s.lif ∧ (departAtMarker a s).sync = s.sync ∧ (departAtMarker a s).ptu = s.ptu ∧
      (departAtMarker a s).cru = s.cru ∧ (departAtMarker a s).fru = s.fru ∧ (departAtMarker a s).cfg = s.cfg ∧
      (departAtMarker a s).pending = s.pending := by
  and_intros <;> unfold departAtMarker <;> (try dsimp only) <;> (repeat' split) <;> simp

@[simp] theorem arrive_frame (a : Addr) (d : Bool) (s : State) :
    (arrive a d s).lif = s.lif ∧ (arrive a d s).sync = s.sync ∧ (arrive a d s).ptu = s.ptu ∧
      (arrive a d s).cru = s.cru ∧ (arrive a d s).txe = s.txe ∧ (arrive a d s).dlt = s.dlt ∧
      (arrive a d s).rxe = s.rxe ∧ (arrive a d s).fru = s.fru ∧ (arrive a d s).cfg = s.cfg ∧
      (arrive a d s).pending = s.pending := by
  and_intros <;> unfold arrive <;> (try dsimp only) <;> (repeat' split) <;> simp

@[simp] theorem freshSources_frame (s : State) :
    (freshSources s).lif = s.lif ∧ (freshSources s).sync = s.sync ∧ (freshSources s).ptu = s.ptu ∧
      (freshSources s).rcm = s.rcm ∧ (freshSources s).cru = s.cru ∧ (freshSources s).txe = s.txe ∧
      (freshSources s).dlt = s.dlt ∧ (freshSources s).fru = s.fru ∧ (freshSources s).cfg = s.cfg ∧
      (freshSources s).hp = s.hp ∧ (freshSources s).pending = s.pending := by
  and_intros <;> rfl

@[simp] theorem cutTransmission_frame (s : State) :
    (cutTransmission s).sync = s.sync ∧ (cutTransmission s).ptu = s.ptu ∧ (cutTransmission s).rcm = s.rcm ∧
      (cutTransmission s).cru = s.cru ∧ (cutTransmission s).txe = s.txe ∧ (cutTransmission s).dlt = s.dlt ∧
      (cutTransmission s).rxe = s.rxe ∧ (cutTransmission s).fru = s.fru ∧ (cutTransmission s).cfg = s.cfg ∧
      (cutTransmission s).hp = s.hp ∧ (cutTransmission s).pending = s.pending := by
  and_intros <;> rfl

@[simp] theorem transmit_frame (f : SentFrame) (b : List Byte) (s : State) :
    (transmit f b s).sync = s.sync ∧ (transmit f b s).ptu = s.ptu ∧ (transmit f b s).rcm = s.rcm ∧
      (transmit f b s).cru = s.cru ∧ (transmit f b s).txe = s.txe ∧ (transmit f b s).dlt = s.dlt ∧
      (transmit f b s).rxe = s.rxe ∧ (transmit f b s).fru = s.fru ∧ (transmit f b s).cfg = s.cfg ∧
      (transmit f b s).hp = s.hp ∧ (transmit f b s).pending = s.pending := by
  and_intros <;> rfl

@[simp] theorem foldMark_frame (s : State) :
    (foldMark s).lif = s.lif ∧ (foldMark s).sync = s.sync ∧ (foldMark s).ptu = s.ptu ∧ (foldMark s).rcm = s.rcm ∧
      (foldMark s).cru = s.cru ∧ (foldMark s).dlt = s.dlt ∧ (foldMark s).rxe = s.rxe ∧ (foldMark s).fru = s.fru ∧
      (foldMark s).cfg = s.cfg ∧ (foldMark s).hp = s.hp ∧ (foldMark s).pending = s.pending := by
  and_intros <;> rfl

@[simp] theorem dropHolder_frame (s : State) :
    (dropHolder s).lif = s.lif ∧ (dropHolder s).ptu = s.ptu ∧ (dropHolder s).rcm = s.rcm ∧
      (dropHolder s).cru = s.cru ∧ (dropHolder s).txe = s.txe ∧ (dropHolder s).dlt = s.dlt ∧
      (dropHolder s).rxe = s.rxe ∧ (dropHolder s).fru = s.fru ∧ (dropHolder s).cfg = s.cfg ∧
      (dropHolder s).pending = s.pending := by
  and_intros <;> unfold dropHolder <;> (try dsimp only) <;> (repeat' split) <;> simp

@[simp] theorem leaveActive_frame (s : State) :
    (leaveActive s).lif = s.lif ∧ (leaveActive s).ptu = s.ptu ∧ (leaveActive s).rcm = s.rcm ∧
      (leaveActive s).dlt = s.dlt ∧ (leaveActive s).rxe = s.rxe ∧ (leaveActive s).fru = s.fru ∧
      (leaveActive s).cfg = s.cfg ∧ (leaveActive s).pending = s.pending := by
  and_intros <;> unfold leaveActive <;> (try dsimp only) <;> (repeat' split) <;> simp

@[simp] theorem withdrawNow_frame (s : State) :
    (withdrawNow s).fru = s.fru ∧ (withdrawNow s).cfg = s.cfg ∧ (withdrawNow s).pending = s.pending := by
  refine ⟨?_, ?_, ?_⟩ <;> unfold withdrawNow <;> (try dsimp only) <;> (repeat' split) <;> simp

@[simp] theorem fatal_frame (k : FaultKind) (ctx : FaultCtx) (s : State) :
    (fatal k ctx s).cfg = s.cfg ∧ (fatal k ctx s).pending = s.pending := by
  refine ⟨?_, ?_⟩ <;> unfold fatal <;> (try dsimp only) <;> (repeat' split) <;> simp

@[simp] theorem enterListening_frame (s : State) :
    (enterListening s).lif = s.lif ∧ (enterListening s).cru = s.cru ∧ (enterListening s).txe = s.txe ∧
      (enterListening s).dlt = s.dlt ∧ (enterListening s).fru = s.fru ∧ (enterListening s).cfg = s.cfg ∧
      (enterListening s).pending = s.pending := by
  and_intros <;> unfold enterListening <;> (try dsimp only) <;> (repeat' split) <;> simp

@[simp] theorem joinLine_frame (s : State) :
    (joinLine s).cru = s.cru ∧ (joinLine s).txe = s.txe ∧ (joinLine s).dlt = s.dlt ∧ (joinLine s).fru = s.fru ∧
      (joinLine s).cfg = s.cfg ∧ (joinLine s).pending = s.pending := by
  and_intros <;> unfold joinLine <;> (try dsimp only) <;> (repeat' split) <;> simp

@[simp] theorem suspend_frame (s : State) :
    (suspend s).cru = s.cru ∧ (suspend s).txe = s.txe ∧ (suspend s).dlt = s.dlt ∧ (suspend s).rxe = s.rxe ∧
      (suspend s).fru = s.fru ∧ (suspend s).cfg = s.cfg ∧ (suspend s).hp = s.hp ∧
      (suspend s).pending = s.pending := by
  and_intros <;> unfold suspend <;> (try dsimp only) <;> (repeat' split) <;> simp

@[simp] theorem toRelearn_frame (s : State) :
    (toRelearn s).lif = s.lif ∧ (toRelearn s).rcm = s.rcm ∧ (toRelearn s).dlt = s.dlt ∧ (toRelearn s).rxe = s.rxe ∧
      (toRelearn s).fru = s.fru ∧ (toRelearn s).cfg = s.cfg ∧ (toRelearn s).pending = s.pending := by
  and_intros <;> unfold toRelearn <;> (try dsimp only) <;> (repeat' split) <;> simp

@[simp] theorem degradeToRelearn_frame (k : FaultKind) (ctx : FaultCtx) (s : State) :
    (degradeToRelearn k ctx s).lif = s.lif ∧ (degradeToRelearn k ctx s).rcm = s.rcm ∧
      (degradeToRelearn k ctx s).dlt = s.dlt ∧ (degradeToRelearn k ctx s).rxe = s.rxe ∧
      (degradeToRelearn k ctx s).cfg = s.cfg ∧ (degradeToRelearn k ctx s).pending = s.pending := by
  and_intros <;> unfold degradeToRelearn <;> (try dsimp only) <;> (repeat' split) <;> simp

@[simp] theorem forgetPeers_frame (s : State) :
    (forgetPeers s).lif = s.lif ∧ (forgetPeers s).sync = s.sync ∧ (forgetPeers s).ptu = s.ptu ∧
      (forgetPeers s).cru = s.cru ∧ (forgetPeers s).txe = s.txe ∧ (forgetPeers s).fru = s.fru ∧
      (forgetPeers s).cfg = s.cfg ∧ (forgetPeers s).hp = s.hp ∧ (forgetPeers s).pending = s.pending := by
  and_intros <;> unfold forgetPeers <;> (try dsimp only) <;> (repeat' split) <;> simp

@[simp] theorem displacementTest_frame (s : State) :
    (displacementTest s).cfg = s.cfg ∧ (displacementTest s).pending = s.pending := by
  refine ⟨?_, ?_⟩ <;> unfold displacementTest <;> (try dsimp only) <;> (repeat' split) <;> simp

@[simp] theorem giveUp_frame (f : TxFrame) (s : State) :
    (giveUp f s).lif = s.lif ∧ (giveUp f s).sync = s.sync ∧ (giveUp f s).ptu = s.ptu ∧ (giveUp f s).rcm = s.rcm ∧
      (giveUp f s).cru = s.cru ∧ (giveUp f s).txe = s.txe ∧ (giveUp f s).rxe = s.rxe ∧ (giveUp f s).cfg = s.cfg ∧
      (giveUp f s).pending = s.pending := by
  and_intros <;> unfold giveUp <;> (try dsimp only) <;> (repeat' split) <;> simp

@[simp] theorem keepEntry_frame (e : RetryEntry) (s : State) :
    (keepEntry e s).lif = s.lif ∧ (keepEntry e s).sync = s.sync ∧ (keepEntry e s).ptu = s.ptu ∧
      (keepEntry e s).rcm = s.rcm ∧ (keepEntry e s).cru = s.cru ∧ (keepEntry e s).txe = s.txe ∧
      (keepEntry e s).rxe = s.rxe ∧ (keepEntry e s).fru = s.fru ∧ (keepEntry e s).cfg = s.cfg ∧
      (keepEntry e s).hp = s.hp ∧ (keepEntry e s).pending = s.pending := by
  and_intros <;> rfl

@[simp] theorem ageEntry_frame (s : State) (e : RetryEntry) :
    (ageEntry s e).lif = s.lif ∧ (ageEntry s e).sync = s.sync ∧ (ageEntry s e).ptu = s.ptu ∧
      (ageEntry s e).rcm = s.rcm ∧ (ageEntry s e).cru = s.cru ∧ (ageEntry s e).txe = s.txe ∧
      (ageEntry s e).rxe = s.rxe ∧ (ageEntry s e).cfg = s.cfg ∧ (ageEntry s e).pending = s.pending := by
  and_intros <;> unfold ageEntry <;> (try dsimp only) <;> (repeat' split) <;> simp

@[simp] theorem ageRetryList_frame (s : State) :
    (ageRetryList s).lif = s.lif ∧ (ageRetryList s).sync = s.sync ∧ (ageRetryList s).ptu = s.ptu ∧
      (ageRetryList s).rcm = s.rcm ∧ (ageRetryList s).cru = s.cru ∧ (ageRetryList s).txe = s.txe ∧
      (ageRetryList s).rxe = s.rxe ∧ (ageRetryList s).cfg = s.cfg ∧ (ageRetryList s).pending = s.pending := by
  exact ⟨(foldl_keeps State.lif _ (fun _ _ => by simp) _ _).trans (by simp),
    (foldl_keeps State.sync _ (fun _ _ => by simp) _ _).trans (by simp),
    (foldl_keeps State.ptu _ (fun _ _ => by simp) _ _).trans (by simp),
    (foldl_keeps State.rcm _ (fun _ _ => by simp) _ _).trans (by simp),
    (foldl_keeps State.cru _ (fun _ _ => by simp) _ _).trans (by simp),
    (foldl_keeps State.txe _ (fun _ _ => by simp) _ _).trans (by simp),
    (foldl_keeps State.rxe _ (fun _ _ => by simp) _ _).trans (by simp),
    (foldl_keeps State.cfg _ (fun _ _ => by simp) _ _).trans (by simp),
    (foldl_keeps State.pending _ (fun _ _ => by simp) _ _).trans (by simp)⟩

@[simp] theorem applyStaged_frame (s : State) :
    (applyStaged s).lif = s.lif ∧ (applyStaged s).sync = s.sync ∧ (applyStaged s).ptu = s.ptu ∧
      (applyStaged s).rcm = s.rcm ∧ (applyStaged s).cru = s.cru ∧ (applyStaged s).dlt = s.dlt ∧
      (applyStaged s).rxe = s.rxe ∧ (applyStaged s).fru = s.fru ∧ (applyStaged s).cfg = s.cfg ∧
      (applyStaged s).pending = s.pending := by
  and_intros <;> unfold applyStaged <;> (try dsimp only) <;> (repeat' split) <;> simp

@[simp] theorem produceCycleStart_frame (s : State) :
    (produceCycleStart s).ptu = s.ptu ∧ (produceCycleStart s).cru = s.cru ∧
      (produceCycleStart s).rxe = s.rxe ∧ (produceCycleStart s).cfg = s.cfg ∧
      (produceCycleStart s).pending = s.pending := by
  and_intros <;> unfold produceCycleStart <;> (try dsimp only) <;> (repeat' split) <;> simp

@[simp] theorem sendMarker_frame (s : State) :
    (sendMarker s).sync = s.sync ∧ (sendMarker s).ptu = s.ptu ∧ (sendMarker s).rcm = s.rcm ∧
      (sendMarker s).cru = s.cru ∧ (sendMarker s).txe = s.txe ∧ (sendMarker s).dlt = s.dlt ∧
      (sendMarker s).rxe = s.rxe ∧ (sendMarker s).fru = s.fru ∧ (sendMarker s).cfg = s.cfg ∧
      (sendMarker s).hp = s.hp ∧ (sendMarker s).pending = s.pending := by
  and_intros <;> rfl

@[simp] theorem markerTiming_frame (m : Marker) (offset : Int) (restart : Bool) (s : State) :
    (markerTiming m offset restart s).ptu = s.ptu ∧ (markerTiming m offset restart s).cru = s.cru ∧
      (markerTiming m offset restart s).rxe = s.rxe ∧ (markerTiming m offset restart s).cfg = s.cfg ∧
      (markerTiming m offset restart s).pending = s.pending := by
  refine ⟨?_, ?_, ?_, ?_, ?_⟩ <;> unfold markerTiming <;> (try dsimp only) <;> (repeat' split) <;> simp

@[simp] theorem markerLearn_frame (s : State) :
    (markerLearn s).lif = s.lif ∧ (markerLearn s).rcm = s.rcm ∧ (markerLearn s).cru = s.cru ∧
      (markerLearn s).txe = s.txe ∧ (markerLearn s).dlt = s.dlt ∧ (markerLearn s).rxe = s.rxe ∧
      (markerLearn s).fru = s.fru ∧ (markerLearn s).cfg = s.cfg ∧ (markerLearn s).pending = s.pending := by
  and_intros <;> unfold markerLearn <;> (try dsimp only) <;> (repeat' split) <;> simp

@[simp] theorem learningSuccess_frame (s : State) :
    (learningSuccess s).lif = s.lif ∧ (learningSuccess s).rcm = s.rcm ∧ (learningSuccess s).cru = s.cru ∧
      (learningSuccess s).txe = s.txe ∧ (learningSuccess s).dlt = s.dlt ∧ (learningSuccess s).rxe = s.rxe ∧
      (learningSuccess s).fru = s.fru ∧ (learningSuccess s).cfg = s.cfg ∧
      (learningSuccess s).pending = s.pending := by
  and_intros <;> unfold learningSuccess <;> (try dsimp only) <;> (repeat' split) <;> simp

@[simp] theorem learningFailure_frame (s : State) :
    (learningFailure s).cfg = s.cfg ∧ (learningFailure s).pending = s.pending := by
  refine ⟨?_, ?_⟩ <;> unfold learningFailure <;> (try dsimp only) <;> (repeat' split) <;> simp

@[simp] theorem markerCompare_frame (m : Marker) (s : State) :
    (markerCompare m s).cfg = s.cfg ∧ (markerCompare m s).pending = s.pending := by
  refine ⟨?_, ?_⟩ <;> unfold markerCompare <;> (try dsimp only) <;> (repeat' split) <;> simp

@[simp] theorem adoptAddress_frame (m : Marker) (s : State) (a : Addr) :
    (adoptAddress m s a).lif = s.lif ∧ (adoptAddress m s a).sync = s.sync ∧ (adoptAddress m s a).ptu = s.ptu ∧
      (adoptAddress m s a).cru = s.cru ∧ (adoptAddress m s a).fru = s.fru ∧ (adoptAddress m s a).cfg = s.cfg ∧
      (adoptAddress m s a).pending = s.pending := by
  and_intros <;> unfold adoptAddress <;> (try dsimp only) <;> (repeat' split) <;> simp

@[simp] theorem adoptPresence_frame (m : Marker) (s : State) :
    (adoptPresence m s).lif = s.lif ∧ (adoptPresence m s).sync = s.sync ∧ (adoptPresence m s).ptu = s.ptu ∧
      (adoptPresence m s).cru = s.cru ∧ (adoptPresence m s).fru = s.fru ∧ (adoptPresence m s).cfg = s.cfg ∧
      (adoptPresence m s).pending = s.pending := by
  and_intros <;> unfold adoptPresence <;> dsimp only
  · rw [State.withRcm_lif]; exact foldl_keeps State.lif _ (fun _ _ => by simp) _ _
  · rw [State.withRcm_sync]; exact foldl_keeps State.sync _ (fun _ _ => by simp) _ _
  · rw [State.withRcm_ptu]; exact foldl_keeps State.ptu _ (fun _ _ => by simp) _ _
  · rw [State.withRcm_cru]; exact foldl_keeps State.cru _ (fun _ _ => by simp) _ _
  · rw [State.withRcm_fru]; exact foldl_keeps State.fru _ (fun _ _ => by simp) _ _
  · rw [State.withRcm_cfg]; exact foldl_keeps State.cfg _ (fun _ _ => by simp) _ _
  · rw [State.withRcm_pending]; exact foldl_keeps State.pending _ (fun _ _ => by simp) _ _

@[simp] theorem markerSegment_frame (m : Marker) (s : State) :
    (markerSegment m s).lif = s.lif ∧ (markerSegment m s).sync = s.sync ∧ (markerSegment m s).rcm = s.rcm ∧
      (markerSegment m s).cru = s.cru ∧ (markerSegment m s).txe = s.txe ∧ (markerSegment m s).dlt = s.dlt ∧
      (markerSegment m s).rxe = s.rxe ∧ (markerSegment m s).fru = s.fru ∧ (markerSegment m s).cfg = s.cfg ∧
      (markerSegment m s).hp = s.hp ∧ (markerSegment m s).pending = s.pending := by
  and_intros <;> unfold markerSegment <;> (try dsimp only) <;> (repeat' split) <;> simp

@[simp] theorem takeMarker_frame (m : Marker) (offset : Int) (restart : Bool) (s : State) :
    (takeMarker m offset restart s).cfg = s.cfg ∧ (takeMarker m offset restart s).pending = s.pending := by
  refine ⟨?_, ?_⟩ <;> unfold takeMarker <;> (try dsimp only) <;> (repeat' split) <;> simp

@[simp] theorem takeAck_frame (x : Addr) (s : State) (q : Byte) :
    (takeAck x s q).lif = s.lif ∧ (takeAck x s q).sync = s.sync ∧ (takeAck x s q).ptu = s.ptu ∧
      (takeAck x s q).rcm = s.rcm ∧ (takeAck x s q).cru = s.cru ∧ (takeAck x s q).txe = s.txe ∧
      (takeAck x s q).rxe = s.rxe ∧ (takeAck x s q).cfg = s.cfg ∧ (takeAck x s q).pending = s.pending := by
  and_intros <;> unfold takeAck <;> (try dsimp only) <;> (repeat' split) <;> simp

end Sys2Proof.Machine
end

