-- ==== Sys2Proof/Laws/CommandFrames.lean ====
section
/-!
SUPPORT. For each operation of the commands' own files, one lemma that names every block it leaves as it was.
-/

namespace Sys2Proof.Machine

@[simp] theorem handleMarker_frame (m : Marker) (offset : Int) (s : State) :
    (handleMarker m offset s).cfg = s.cfg ∧ (handleMarker m offset s).pending = s.pending := by
  refine ⟨?_, ?_⟩ <;> unfold handleMarker <;> (try dsimp only) <;> (repeat' split) <;> simp

@[simp] theorem markerLost_frame (s : State) :
    (markerLost s).cru = s.cru ∧ (markerLost s).txe = s.txe ∧ (markerLost s).dlt = s.dlt ∧
      (markerLost s).rxe = s.rxe ∧ (markerLost s).cfg = s.cfg ∧ (markerLost s).pending = s.pending := by
  and_intros <;> unfold markerLost <;> (try dsimp only) <;> (repeat' split) <;> simp

@[simp] theorem acceptRollWord_frame (k : Addr) (w : RollWord) (s : State) :
    (acceptRollWord k w s).lif = s.lif ∧ (acceptRollWord k w s).sync = s.sync ∧
      (acceptRollWord k w s).ptu = s.ptu ∧ (acceptRollWord k w s).cru = s.cru ∧
      (acceptRollWord k w s).txe = s.txe ∧ (acceptRollWord k w s).rxe = s.rxe ∧
      (acceptRollWord k w s).cfg = s.cfg ∧ (acceptRollWord k w s).pending = s.pending := by
  and_intros <;> unfold acceptRollWord <;> dsimp only <;> split
  · rw [State.withRcm_lif]; exact foldl_keeps State.lif _ (fun _ _ => by simp) _ _
  · exact foldl_keeps State.lif _ (fun _ _ => by simp) _ _
  · rw [State.withRcm_sync]; exact foldl_keeps State.sync _ (fun _ _ => by simp) _ _
  · exact foldl_keeps State.sync _ (fun _ _ => by simp) _ _
  · rw [State.withRcm_ptu]; exact foldl_keeps State.ptu _ (fun _ _ => by simp) _ _
  · exact foldl_keeps State.ptu _ (fun _ _ => by simp) _ _
  · rw [State.withRcm_cru]; exact foldl_keeps State.cru _ (fun _ _ => by simp) _ _
  · exact foldl_keeps State.cru _ (fun _ _ => by simp) _ _
  · rw [State.withRcm_txe]; exact foldl_keeps State.txe _ (fun _ _ => by simp) _ _
  · exact foldl_keeps State.txe _ (fun _ _ => by simp) _ _
  · rw [State.withRcm_rxe]; exact foldl_keeps State.rxe _ (fun _ _ => by simp) _ _
  · exact foldl_keeps State.rxe _ (fun _ _ => by simp) _ _
  · rw [State.withRcm_cfg]; exact foldl_keeps State.cfg _ (fun _ _ => by simp) _ _
  · exact foldl_keeps State.cfg _ (fun _ _ => by simp) _ _
  · rw [State.withRcm_pending]; exact foldl_keeps State.pending _ (fun _ _ => by simp) _ _
  · exact foldl_keeps State.pending _ (fun _ _ => by simp) _ _

@[simp] theorem checkRollWord_frame (k : Addr) (w : RollWord) (s : State) :
    (checkRollWord k w s).cfg = s.cfg ∧ (checkRollWord k w s).pending = s.pending := by
  refine ⟨?_, ?_⟩ <;> unfold checkRollWord <;> (try dsimp only) <;> (repeat' split) <;> simp

@[simp] theorem rollCollision_frame (s : State) :
    (rollCollision s).cfg = s.cfg ∧ (rollCollision s).pending = s.pending := by
  refine ⟨?_, ?_⟩ <;> unfold rollCollision <;> (try dsimp only) <;> (repeat' split) <;> simp

@[simp] theorem enqueueRx_frame (r : RxRecord) (s : State) :
    (enqueueRx r s).lif = s.lif ∧ (enqueueRx r s).sync = s.sync ∧ (enqueueRx r s).ptu = s.ptu ∧
      (enqueueRx r s).rcm = s.rcm ∧ (enqueueRx r s).cru = s.cru ∧ (enqueueRx r s).txe = s.txe ∧
      (enqueueRx r s).dlt = s.dlt ∧ (enqueueRx r s).fru = s.fru ∧ (enqueueRx r s).cfg = s.cfg ∧
      (enqueueRx r s).pending = s.pending := by
  and_intros <;> unfold enqueueRx <;> (try dsimp only) <;> (repeat' split) <;> simp

@[simp] theorem receiveUnicast_frame (r : RxRecord) (ctx : FaultCtx) (s : State) :
    (receiveUnicast r ctx s).lif = s.lif ∧ (receiveUnicast r ctx s).sync = s.sync ∧
      (receiveUnicast r ctx s).ptu = s.ptu ∧ (receiveUnicast r ctx s).rcm = s.rcm ∧
      (receiveUnicast r ctx s).cru = s.cru ∧ (receiveUnicast r ctx s).txe = s.txe ∧
      (receiveUnicast r ctx s).dlt = s.dlt ∧ (receiveUnicast r ctx s).cfg = s.cfg ∧
      (receiveUnicast r ctx s).pending = s.pending := by
  and_intros <;> unfold receiveUnicast <;> (try dsimp only) <;> (repeat' split) <;> simp

@[simp] theorem receiveBroadcast_frame (r : RxRecord) (ctx : FaultCtx) (s : State) :
    (receiveBroadcast r ctx s).lif = s.lif ∧ (receiveBroadcast r ctx s).sync = s.sync ∧
      (receiveBroadcast r ctx s).ptu = s.ptu ∧ (receiveBroadcast r ctx s).rcm = s.rcm ∧
      (receiveBroadcast r ctx s).cru = s.cru ∧ (receiveBroadcast r ctx s).txe = s.txe ∧
      (receiveBroadcast r ctx s).dlt = s.dlt ∧ (receiveBroadcast r ctx s).cfg = s.cfg ∧
      (receiveBroadcast r ctx s).pending = s.pending := by
  and_intros <;> unfold receiveBroadcast <;> (try dsimp only) <;> (repeat' split) <;> simp

@[simp] theorem checkDataFrame_frame (k : Phase) (f : DataFrame) (s : State) :
    (checkDataFrame k f s).lif = s.lif ∧ (checkDataFrame k f s).sync = s.sync ∧
      (checkDataFrame k f s).ptu = s.ptu ∧ (checkDataFrame k f s).rcm = s.rcm ∧
      (checkDataFrame k f s).cru = s.cru ∧ (checkDataFrame k f s).txe = s.txe ∧
      (checkDataFrame k f s).dlt = s.dlt ∧ (checkDataFrame k f s).cfg = s.cfg ∧
      (checkDataFrame k f s).pending = s.pending := by
  and_intros <;> unfold checkDataFrame <;> (try dsimp only) <;> (repeat' split) <;> simp

@[simp] theorem actOnPhase_frame (k : Phase) (f : Option DataFrame) (s : State) :
    (actOnPhase k f s).lif = s.lif ∧ (actOnPhase k f s).sync = s.sync ∧ (actOnPhase k f s).ptu = s.ptu ∧
      (actOnPhase k f s).rcm = s.rcm ∧ (actOnPhase k f s).cru = s.cru ∧ (actOnPhase k f s).txe = s.txe ∧
      (actOnPhase k f s).dlt = s.dlt ∧ (actOnPhase k f s).cfg = s.cfg ∧ (actOnPhase k f s).pending = s.pending := by
  and_intros <;> unfold actOnPhase <;> (try dsimp only) <;> (repeat' split) <;> simp

@[simp] theorem reportRollWord_frame (k : Addr) (w : RollWord) (s : State) :
    (reportRollWord k w s).lif = s.lif ∧ (reportRollWord k w s).sync = s.sync ∧
      (reportRollWord k w s).ptu = s.ptu ∧ (reportRollWord k w s).rcm = s.rcm ∧
      (reportRollWord k w s).cru = s.cru ∧ (reportRollWord k w s).txe = s.txe ∧
      (reportRollWord k w s).dlt = s.dlt ∧ (reportRollWord k w s).rxe = s.rxe ∧
      (reportRollWord k w s).cfg = s.cfg ∧ (reportRollWord k w s).pending = s.pending := by
  and_intros <;> unfold reportRollWord <;> (try dsimp only) <;> (repeat' split) <;> simp

@[simp] theorem reportDataFrame_frame (k : Phase) (f : DataFrame) (s : State) :
    (reportDataFrame k f s).lif = s.lif ∧ (reportDataFrame k f s).sync = s.sync ∧
      (reportDataFrame k f s).ptu = s.ptu ∧ (reportDataFrame k f s).rcm = s.rcm ∧
      (reportDataFrame k f s).cru = s.cru ∧ (reportDataFrame k f s).txe = s.txe ∧
      (reportDataFrame k f s).dlt = s.dlt ∧ (reportDataFrame k f s).rxe = s.rxe ∧
      (reportDataFrame k f s).cfg = s.cfg ∧ (reportDataFrame k f s).pending = s.pending := by
  and_intros <;> unfold reportDataFrame <;> (try dsimp only) <;> (repeat' split) <;> simp

@[simp] theorem finishBroadcast_frame (c : Cls) (st : DoneStatus) (s : State) :
    (finishBroadcast c st s).lif = s.lif ∧ (finishBroadcast c st s).sync = s.sync ∧
      (finishBroadcast c st s).ptu = s.ptu ∧ (finishBroadcast c st s).rcm = s.rcm ∧
      (finishBroadcast c st s).cru = s.cru ∧ (finishBroadcast c st s).rxe = s.rxe ∧
      (finishBroadcast c st s).fru = s.fru ∧ (finishBroadcast c st s).cfg = s.cfg ∧
      (finishBroadcast c st s).pending = s.pending := by
  and_intros <;> unfold finishBroadcast <;> (try dsimp only) <;> (repeat' split) <;> simp

@[simp] theorem phaseCollision_frame (k : Phase) (s : State) :
    (phaseCollision k s).lif = s.lif ∧ (phaseCollision k s).rcm = s.rcm ∧ (phaseCollision k s).dlt = s.dlt ∧
      (phaseCollision k s).rxe = s.rxe ∧ (phaseCollision k s).cfg = s.cfg ∧
      (phaseCollision k s).pending = s.pending := by
  and_intros <;> unfold phaseCollision <;> (try dsimp only) <;> (repeat' split) <;> simp

@[simp] theorem phaseClean_frame (s : State) :
    (phaseClean s).lif = s.lif ∧ (phaseClean s).sync = s.sync ∧ (phaseClean s).ptu = s.ptu ∧
      (phaseClean s).rcm = s.rcm ∧ (phaseClean s).cru = s.cru ∧ (phaseClean s).dlt = s.dlt ∧
      (phaseClean s).rxe = s.rxe ∧ (phaseClean s).fru = s.fru ∧ (phaseClean s).cfg = s.cfg ∧
      (phaseClean s).hp = s.hp ∧ (phaseClean s).pending = s.pending := by
  and_intros <;> unfold phaseClean <;> (try dsimp only) <;> (repeat' split) <;> simp

@[simp] theorem sendNormal_frame (s : State) :
    (sendNormal s).sync = s.sync ∧ (sendNormal s).ptu = s.ptu ∧ (sendNormal s).rcm = s.rcm ∧
      (sendNormal s).txe = s.txe ∧ (sendNormal s).dlt = s.dlt ∧ (sendNormal s).fru = s.fru ∧
      (sendNormal s).cfg = s.cfg ∧ (sendNormal s).hp = s.hp ∧ (sendNormal s).pending = s.pending := by
  and_intros <;> rfl

@[simp] theorem sendLeave_frame (s : State) :
    (sendLeave s).ptu = s.ptu ∧ (sendLeave s).rcm = s.rcm ∧ (sendLeave s).cru = s.cru ∧ (sendLeave s).txe = s.txe ∧
      (sendLeave s).dlt = s.dlt ∧ (sendLeave s).fru = s.fru ∧ (sendLeave s).cfg = s.cfg ∧ (sendLeave s).hp = s.hp ∧
      (sendLeave s).pending = s.pending := by
  and_intros <;> rfl

@[simp] theorem retransmit_frame (k : Phase) (e : RetryEntry) (s : State) :
    (retransmit k e s).sync = s.sync ∧ (retransmit k e s).ptu = s.ptu ∧ (retransmit k e s).rcm = s.rcm ∧
      (retransmit k e s).cru = s.cru ∧ (retransmit k e s).txe = s.txe ∧ (retransmit k e s).rxe = s.rxe ∧
      (retransmit k e s).fru = s.fru ∧ (retransmit k e s).cfg = s.cfg ∧ (retransmit k e s).hp = s.hp ∧
      (retransmit k e s).pending = s.pending := by
  and_intros <;> unfold retransmit <;> (try dsimp only) <;> (repeat' split) <;> simp

@[simp] theorem dropAbsent_frame (c : Cls) (l : List TxFrame) (s : State) :
    (dropAbsent c l s).lif = s.lif ∧ (dropAbsent c l s).sync = s.sync ∧ (dropAbsent c l s).ptu = s.ptu ∧
      (dropAbsent c l s).rcm = s.rcm ∧ (dropAbsent c l s).cru = s.cru ∧ (dropAbsent c l s).rxe = s.rxe ∧
      (dropAbsent c l s).fru = s.fru ∧ (dropAbsent c l s).cfg = s.cfg ∧ (dropAbsent c l s).pending = s.pending := by
  induction l generalizing s with
  | nil => simp [dropAbsent]
  | cons f rest ih => unfold dropAbsent; split <;> simp [ih]

@[simp] theorem sendBroadcast_frame (k : Phase) (c : Cls) (f : TxFrame) (rest : List TxFrame) (s : State) :
    (sendBroadcast k c f rest s).sync = s.sync ∧ (sendBroadcast k c f rest s).ptu = s.ptu ∧
      (sendBroadcast k c f rest s).rcm = s.rcm ∧ (sendBroadcast k c f rest s).cru = s.cru ∧
      (sendBroadcast k c f rest s).dlt = s.dlt ∧ (sendBroadcast k c f rest s).rxe = s.rxe ∧
      (sendBroadcast k c f rest s).fru = s.fru ∧ (sendBroadcast k c f rest s).cfg = s.cfg ∧
      (sendBroadcast k c f rest s).hp = s.hp ∧ (sendBroadcast k c f rest s).pending = s.pending := by
  and_intros <;> unfold sendBroadcast <;> (try dsimp only) <;> (repeat' split) <;> simp

@[simp] theorem sendUnicast_frame (k : Phase) (c : Cls) (d : Addr) (f : TxFrame) (rest : List TxFrame) (s : State) :
    (sendUnicast k c d f rest s).sync = s.sync ∧ (sendUnicast k c d f rest s).ptu = s.ptu ∧
      (sendUnicast k c d f rest s).rcm = s.rcm ∧ (sendUnicast k c d f rest s).cru = s.cru ∧
      (sendUnicast k c d f rest s).rxe = s.rxe ∧ (sendUnicast k c d f rest s).fru = s.fru ∧
      (sendUnicast k c d f rest s).cfg = s.cfg ∧ (sendUnicast k c d f rest s).hp = s.hp ∧
      (sendUnicast k c d f rest s).pending = s.pending := by
  and_intros <;> unfold sendUnicast <;> (try dsimp only) <;> (repeat' split) <;> simp

@[simp] theorem sendHead_frame (k : Phase) (i : Fin 16) (c : Cls) (f : TxFrame) (rest : List TxFrame) (s : State) :
    (sendHead k i c f rest s).sync = s.sync ∧ (sendHead k i c f rest s).ptu = s.ptu ∧
      (sendHead k i c f rest s).rcm = s.rcm ∧ (sendHead k i c f rest s).cru = s.cru ∧
      (sendHead k i c f rest s).rxe = s.rxe ∧ (sendHead k i c f rest s).fru = s.fru ∧
      (sendHead k i c f rest s).cfg = s.cfg ∧ (sendHead k i c f rest s).hp = s.hp ∧
      (sendHead k i c f rest s).pending = s.pending := by
  and_intros <;> unfold sendHead <;> (try dsimp only) <;> (repeat' split) <;> simp

@[simp] theorem walk_frame (k : Phase) (n : Nat) (i : Fin 16) (s : State) :
    (walk k n i s).sync = s.sync ∧ (walk k n i s).ptu = s.ptu ∧ (walk k n i s).rcm = s.rcm ∧
      (walk k n i s).cru = s.cru ∧ (walk k n i s).rxe = s.rxe ∧ (walk k n i s).fru = s.fru ∧
      (walk k n i s).cfg = s.cfg ∧ (walk k n i s).pending = s.pending := by
  induction n generalizing i s with
  | zero => simp [walk]
  | succ n ih => unfold walk; dsimp only; split <;> (try split) <;> simp [ih]

@[simp] theorem select_frame (k : Phase) (s : State) :
    (select k s).sync = s.sync ∧ (select k s).ptu = s.ptu ∧ (select k s).rcm = s.rcm ∧ (select k s).cru = s.cru ∧
      (select k s).rxe = s.rxe ∧ (select k s).fru = s.fru ∧ (select k s).cfg = s.cfg ∧
      (select k s).pending = s.pending := by
  and_intros <;> unfold select <;> (try dsimp only) <;> (repeat' split) <;> simp

@[simp] theorem foundBus_frame (s : State) :
    (foundBus s).lif = s.lif ∧ (foundBus s).cru = s.cru ∧ (foundBus s).txe = s.txe ∧ (foundBus s).dlt = s.dlt ∧
      (foundBus s).rxe = s.rxe ∧ (foundBus s).fru = s.fru ∧ (foundBus s).cfg = s.cfg ∧
      (foundBus s).pending = s.pending := by
  and_intros <;> unfold foundBus <;> (try dsimp only) <;> (repeat' split) <;> simp

@[simp] theorem takeTiming_frame (s : State) :
    (takeTiming s).lif = s.lif ∧ (takeTiming s).ptu = s.ptu ∧ (takeTiming s).cru = s.cru ∧
      (takeTiming s).txe = s.txe ∧ (takeTiming s).dlt = s.dlt ∧ (takeTiming s).rxe = s.rxe ∧
      (takeTiming s).fru = s.fru ∧ (takeTiming s).cfg = s.cfg ∧ (takeTiming s).pending = s.pending := by
  and_intros <;> unfold takeTiming <;> (try dsimp only) <;> (repeat' split) <;> simp

@[simp] theorem decidePeer_frame (a : Addr) (s : State) :
    (decidePeer a s).lif = s.lif ∧ (decidePeer a s).cru = s.cru ∧ (decidePeer a s).fru = s.fru ∧
      (decidePeer a s).cfg = s.cfg ∧ (decidePeer a s).pending = s.pending := by
  refine ⟨?_, ?_, ?_, ?_, ?_⟩ <;> unfold decidePeer <;> (try dsimp only) <;> (repeat' split) <;> simp

@[simp] theorem decideOwn_frame (s : State) :
    (decideOwn s).lif = s.lif ∧ (decideOwn s).cru = s.cru ∧ (decideOwn s).fru = s.fru ∧ (decideOwn s).cfg = s.cfg ∧
      (decideOwn s).pending = s.pending := by
  refine ⟨?_, ?_, ?_, ?_, ?_⟩ <;> unfold decideOwn <;> (try dsimp only) <;> (repeat' split) <;> simp

@[simp] theorem decideMember_frame (s : State) (a : Addr) :
    (decideMember s a).lif = s.lif ∧ (decideMember s a).cru = s.cru ∧ (decideMember s a).fru = s.fru ∧
      (decideMember s a).cfg = s.cfg ∧ (decideMember s a).pending = s.pending := by
  refine ⟨?_, ?_, ?_, ?_, ?_⟩ <;> unfold decideMember <;> (try dsimp only) <;> (repeat' split) <;> simp

@[simp] theorem membershipStage_frame (s : State) :
    (membershipStage s).lif = s.lif ∧ (membershipStage s).cru = s.cru ∧ (membershipStage s).fru = s.fru ∧
      (membershipStage s).cfg = s.cfg ∧ (membershipStage s).pending = s.pending := by
  refine ⟨?_, ?_, ?_, ?_, ?_⟩ <;> unfold membershipStage <;> dsimp only
  · rw [State.withRcm_lif]; exact foldl_keeps State.lif _ (fun _ _ => by simp) _ _
  · rw [State.withRcm_cru]; exact foldl_keeps State.cru _ (fun _ _ => by simp) _ _
  · rw [State.withRcm_fru]; exact foldl_keeps State.fru _ (fun _ _ => by simp) _ _
  · rw [State.withRcm_cfg]; exact foldl_keeps State.cfg _ (fun _ _ => by simp) _ _
  · rw [State.withRcm_pending]; exact foldl_keeps State.pending _ (fun _ _ => by simp) _ _

@[simp] theorem applyCarried_frame (s : State) :
    (applyCarried s).lif = s.lif ∧ (applyCarried s).sync = s.sync ∧ (applyCarried s).ptu = s.ptu ∧
      (applyCarried s).rcm = s.rcm ∧ (applyCarried s).txe = s.txe ∧ (applyCarried s).dlt = s.dlt ∧
      (applyCarried s).rxe = s.rxe ∧ (applyCarried s).fru = s.fru ∧ (applyCarried s).cfg = s.cfg ∧
      (applyCarried s).pending = s.pending := by
  and_intros <;> unfold applyCarried <;> (try dsimp only) <;> (repeat' split) <;> simp

@[simp] theorem evaluateClaim_frame (g : List Phase) (s : State) :
    (evaluateClaim g s).lif = s.lif ∧ (evaluateClaim g s).sync = s.sync ∧ (evaluateClaim g s).ptu = s.ptu ∧
      (evaluateClaim g s).rcm = s.rcm ∧ (evaluateClaim g s).txe = s.txe ∧ (evaluateClaim g s).dlt = s.dlt ∧
      (evaluateClaim g s).rxe = s.rxe ∧ (evaluateClaim g s).fru = s.fru ∧ (evaluateClaim g s).cfg = s.cfg ∧
      (evaluateClaim g s).pending = s.pending := by
  and_intros <;> unfold evaluateClaim <;> (try dsimp only) <;> (repeat' split) <;> simp

@[simp] theorem close_frame (s : State) :
    (close s).lif = s.lif ∧ (close s).fru = s.fru ∧ (close s).cfg = s.cfg ∧ (close s).pending = s.pending := by
  refine ⟨?_, ?_, ?_, ?_⟩ <;> unfold close <;> (try dsimp only) <;> (repeat' split) <;> simp

@[simp] theorem portIdle_frame (s : State) :
    (portIdle s).lif = s.lif ∧ (portIdle s).sync = s.sync ∧ (portIdle s).ptu = s.ptu ∧ (portIdle s).rcm = s.rcm ∧
      (portIdle s).cru = s.cru ∧ (portIdle s).txe = s.txe ∧ (portIdle s).dlt = s.dlt ∧ (portIdle s).rxe = s.rxe ∧
      (portIdle s).fru = s.fru ∧ (portIdle s).cfg = s.cfg ∧ (portIdle s).pending = s.pending := by
  and_intros <;> unfold portIdle <;> (try dsimp only) <;> (repeat' split) <;> simp

@[simp] theorem answer_frame (code : Byte) (args : List Byte) (st : Status) (data : List Byte) (s : State) :
    (answer code args st data s).lif = s.lif ∧ (answer code args st data s).sync = s.sync ∧
      (answer code args st data s).ptu = s.ptu ∧ (answer code args st data s).rcm = s.rcm ∧
      (answer code args st data s).cru = s.cru ∧ (answer code args st data s).txe = s.txe ∧
      (answer code args st data s).dlt = s.dlt ∧ (answer code args st data s).rxe = s.rxe ∧
      (answer code args st data s).fru = s.fru ∧ (answer code args st data s).cfg = s.cfg ∧
      (answer code args st data s).pending = s.pending := by
  and_intros <;> rfl

@[simp] theorem replyDone_frame (r : Reply) (s : State) :
    (replyDone r s).lif = s.lif ∧ (replyDone r s).sync = s.sync ∧ (replyDone r s).ptu = s.ptu ∧
      (replyDone r s).rcm = s.rcm ∧ (replyDone r s).cru = s.cru ∧ (replyDone r s).txe = s.txe ∧
      (replyDone r s).dlt = s.dlt ∧ (replyDone r s).rxe = s.rxe ∧ (replyDone r s).fru = s.fru ∧
      (replyDone r s).cfg = s.cfg ∧ (replyDone r s).pending = s.pending := by
  and_intros <;> rfl

@[simp] theorem shiftByte_frame (b : Byte) (s : State) :
    (shiftByte b s).lif = s.lif ∧ (shiftByte b s).sync = s.sync ∧ (shiftByte b s).ptu = s.ptu ∧
      (shiftByte b s).rcm = s.rcm ∧ (shiftByte b s).cru = s.cru ∧ (shiftByte b s).txe = s.txe ∧
      (shiftByte b s).dlt = s.dlt ∧ (shiftByte b s).rxe = s.rxe ∧ (shiftByte b s).fru = s.fru ∧
      (shiftByte b s).cfg = s.cfg ∧ (shiftByte b s).pending = s.pending := by
  and_intros <;> unfold shiftByte <;> (try dsimp only) <;> (repeat' split) <;> simp

@[simp] theorem freeHead_frame (s : State) :
    (freeHead s).lif = s.lif ∧ (freeHead s).sync = s.sync ∧ (freeHead s).ptu = s.ptu ∧ (freeHead s).rcm = s.rcm ∧
      (freeHead s).cru = s.cru ∧ (freeHead s).rxe = s.rxe ∧ (freeHead s).fru = s.fru ∧ (freeHead s).cfg = s.cfg ∧
      (freeHead s).hp = s.hp ∧ (freeHead s).pending = s.pending := by
  and_intros <;> unfold freeHead <;> (try dsimp only) <;> (repeat' split) <;> simp

@[simp] theorem initialiseBlocks_frame (s : State) :
    (initialiseBlocks s).lif = s.lif ∧ (initialiseBlocks s).sync = s.sync ∧ (initialiseBlocks s).ptu = s.ptu ∧
      (initialiseBlocks s).cru = s.cru ∧ (initialiseBlocks s).dlt = s.dlt ∧ (initialiseBlocks s).rxe = s.rxe ∧
      (initialiseBlocks s).cfg = s.cfg ∧ (initialiseBlocks s).pending = s.pending := by
  and_intros <;> rfl

@[simp] theorem leaveStart_frame (s : State) :
    (leaveStart s).cru = s.cru ∧ (leaveStart s).txe = s.txe ∧ (leaveStart s).dlt = s.dlt ∧
      (leaveStart s).fru = s.fru ∧ (leaveStart s).pending = s.pending := by
  refine ⟨?_, ?_, ?_, ?_, ?_⟩ <;> unfold leaveStart <;> (try dsimp only) <;> (repeat' split) <;> simp

@[simp] theorem finishStart_frame (c : Configuration) (src : ConfigSource) (why : Option FailReason) (s : State) :
    (finishStart c src why s).cru = s.cru ∧ (finishStart c src why s).dlt = s.dlt ∧
      (finishStart c src why s).pending = s.pending := by
  refine ⟨?_, ?_, ?_⟩ <;> unfold finishStart <;> (try dsimp only) <;> (repeat' split) <;> simp

@[simp] theorem attemptFailed_frame (why : FailReason) (s : State) :
    (attemptFailed why s).cru = s.cru ∧ (attemptFailed why s).dlt = s.dlt ∧
      (attemptFailed why s).pending = s.pending := by
  refine ⟨?_, ?_, ?_⟩ <;> unfold attemptFailed <;> (try dsimp only) <;> (repeat' split) <;> simp

@[simp] theorem onBus_frame (l : List BusStep) (s : State) :
    (onBus l s).lif = s.lif ∧ (onBus l s).sync = s.sync ∧ (onBus l s).ptu = s.ptu ∧ (onBus l s).rcm = s.rcm ∧
      (onBus l s).cru = s.cru ∧ (onBus l s).txe = s.txe ∧ (onBus l s).dlt = s.dlt ∧ (onBus l s).rxe = s.rxe ∧
      (onBus l s).fru = s.fru ∧ (onBus l s).hp = s.hp ∧ (onBus l s).pending = s.pending := by
  and_intros <;> rfl

@[simp] theorem beginAttempt_frame (n : Nat) (s : State) :
    (beginAttempt n s).cru = s.cru ∧ (beginAttempt n s).dlt = s.dlt ∧ (beginAttempt n s).pending = s.pending := by
  refine ⟨?_, ?_, ?_⟩ <;> unfold beginAttempt <;> (try dsimp only) <;> (repeat' split) <;> simp

end Sys2Proof.Machine
end

