-- ==== Sys2Proof/Laws/Effects.lean ====
section
/-!
SUPPORT. What each shared operation does to the blocks it writes, said once, so that a proof rewrites with it and
unfolds no operation.
-/

namespace Sys2Proof.Machine

/-! ## Tables -/

@[simp] theorem getElem_tab {n : Nat} {α : Type} (f : Fin n → α) (i : Nat) (h : i < n) : (tab f)[i] = f ⟨i, h⟩ := by
  simp [tab]

@[simp] theorem getElem_fin_tab {n : Nat} {α : Type} (f : Fin n → α) (i : Fin n) : (tab f)[i] = f i := by
  simp [tab]

/-! ## Events and faults -/

@[simp] theorem post_hp (e : Event) (s : State) : (post e s).hp = { s.hp with events := s.hp.events ||| e.bit } := rfl

@[simp] theorem recordFault_fru (k : FaultKind) (ctx : FaultCtx) (s : State) :
    (recordFault k ctx s).fru = s.fru.record k s.sync.cycleNumber s.sync.state ctx := by
  unfold recordFault; dsimp only; split <;> simp

theorem recordFault_hp (k : FaultKind) (ctx : FaultCtx) (s : State) :
    (recordFault k ctx s).hp =
      if masked s.fru.mask k then s.hp else { s.hp with events := s.hp.events ||| Event.fault.bit } := by
  unfold recordFault; dsimp only; split <;> simp

@[simp] theorem enter_sync (st : SyncState) (s : State) : (enter st s).sync = { s.sync with state := st } := rfl

/-! ## Completions -/

@[simp] theorem complete_dlt (st : DoneStatus) (f : TxFrame) (s : State) :
    (complete st f s).dlt =
      { s.dlt with done := s.dlt.done ++ [{ frame := f, status := st, cycle := s.sync.cycleNumber }] } := by
  unfold complete; dsimp only; split <;> simp

theorem complete_hp (st : DoneStatus) (f : TxFrame) (s : State) :
    (complete st f s).hp =
      if s.dlt.done.isEmpty then { s.hp with events := s.hp.events ||| Event.doneReady.bit } else s.hp := by
  unfold complete; dsimp only; split <;> simp

theorem foldl_complete_dlt (l : List TxFrame) (s : State) :
    (l.foldl (fun t f => complete .flushed f t) s).dlt =
      { s.dlt with
        done := s.dlt.done ++ l.map fun f => { frame := f, status := .flushed, cycle := s.sync.cycleNumber } } := by
  induction l generalizing s with
  | nil => simp
  | cons f l ih => rw [List.foldl_cons, ih]; simp

/-- R115: the flush empties the queues and the retry list into the completion list, in order. -/
@[simp] theorem flush_dlt (s : State) :
    (flush s).dlt =
      { s.dlt with
        retry := []
        done := s.dlt.done ++
          (waitingFrames s).map fun f => { frame := f, status := .flushed, cycle := s.sync.cycleNumber } } := by
  unfold flush; dsimp only; rw [foldl_complete_dlt]; simp

@[simp] theorem flush_txe (s : State) : (flush s).txe = { s.txe with q0 := [], q1 := [], q2 := [], q3 := [] } := by
  unfold flush; dsimp only
  rw [foldl_keeps State.txe _ (fun _ _ => by simp)]; rfl

/-- R132: finishing the entry for `a` either finds none or takes the first one out and completes its frame. -/
theorem finishEntry_dlt (a : Addr) (st : DoneStatus) (s : State) :
    (finishEntry a st s).dlt =
      match s.dlt.retry.find? (RetryEntry.isFor a) with
      | none => s.dlt
      | some e => { s.dlt with
          retry := s.dlt.retry.eraseP (RetryEntry.isFor a)
          done := s.dlt.done ++ [{ frame := e.frame, status := st, cycle := s.sync.cycleNumber }] } := by
  unfold finishEntry
  cases s.dlt.retry.find? (RetryEntry.isFor a) <;> simp

@[simp] theorem closeEntries_dlt (s : State) :
    (closeEntries s).dlt = { s.dlt with retry := s.dlt.retry.map fun e => { e with closed := true, due := none } } := rfl

/-! ## PTU -/

@[simp] theorem forgetTable_ptu (s : State) : (forgetTable s).ptu = s.ptu.forget := rfl

theorem departAtClose_ptu (a : Addr) (w : DepartReason) (s : State) :
    (departAtClose a w s).ptu = { s.ptu with table := coolOwner a s.ptu.table } := by
  unfold departAtClose; dsimp only; split <;> simp

/-! ## SYNC -/

theorem dropHolder_sync (s : State) : (dropHolder s).sync = { s.sync with holder := false } := by
  unfold dropHolder; split
  · rfl
  · rename_i h; cases hs : s.sync; simp_all

theorem leaveActive_sync (s : State) :
    (leaveActive s).sync = if s.sync.state = .active then { s.sync with holder := false } else s.sync := by
  unfold leaveActive; dsimp only; split
  · simp [dropHolder_sync]
  · rfl

/-- R95, R157: SYNC on entry to WITHDRAWN. -/
theorem withdrawNow_sync (s : State) :
    (withdrawNow s).sync = { s.sync.stop with state := .withdrawn, left := some (leftNow s) } := by
  unfold withdrawNow; dsimp only; simp [Sync.stop]

/-- R34: the table on entry to WITHDRAWN. -/
@[simp] theorem withdrawNow_ptu (s : State) : (withdrawNow s).ptu = s.ptu.forget := by
  unfold withdrawNow; simp

/-- R12, R13: LIF on entry to WITHDRAWN. -/
@[simp] theorem withdrawNow_lif (s : State) : (withdrawNow s).lif = Lif.reset := by
  unfold withdrawNow; simp

/-- R54: RCM on entry to WITHDRAWN. -/
@[simp] theorem withdrawNow_rcm (s : State) : (withdrawNow s).rcm = s.rcm.clear s.cfg.config.absenceLimit := by
  unfold withdrawNow clearPresence; simp

/-- R122, R129: RXE on entry to WITHDRAWN. -/
@[simp] theorem withdrawNow_rxe (s : State) :
    (withdrawNow s).rxe = { s.rxe with lastAcc := Vector.replicate 32 none, acks := [] } := by
  unfold withdrawNow freshSources; simp

/-- R145: DLT on entry to WITHDRAWN: every waiting frame completes FLUSHED, with no cycle number. -/
@[simp] theorem withdrawNow_dlt (s : State) :
    (withdrawNow s).dlt =
      { s.dlt with
        retry := []
        done := s.dlt.done ++ (waitingFrames s).map fun f => { frame := f, status := .flushed, cycle := none } } := by
  have h : ∀ l y, waitingFrames (((leaveActive s).withLif l).withSync y) = waitingFrames s := by
    intro l y; unfold waitingFrames leaveActive; dsimp only; split <;> simp
  unfold withdrawNow; simp [h, Sync.stop]

/-- R116: TXE on entry to WITHDRAWN. -/
@[simp] theorem withdrawNow_txe (s : State) :
    (withdrawNow s).txe =
      { s.txe with
        q0 := [], q1 := [], q2 := [], q3 := []
        nextSeq := Vector.replicate 32 0#8, conflict := 0, mark := .none } := by
  unfold withdrawNow leaveActive; dsimp only; split <;> simp

/-- R62, R66: what leaving ACTIVE does to CRU. -/
theorem leaveActive_cru (s : State) :
    (leaveActive s).cru =
      if s.sync.state = .active then
        { claim := none
          lastClaim := match s.cru.claim with
            | none => s.cru.lastClaim
            | some c => some (.aborted, c.granted)
          releases := [], releaseAll := false, carried := none
          lastRelease := if s.cru.releases.isEmpty && !s.cru.releaseAll then s.cru.lastRelease else some .aborted }
      else s.cru := by
  unfold leaveActive; dsimp only; split
  · simp only [State.withTxe_cru]
    unfold abortReleases; dsimp only
    unfold abortClaim endClaim
    cases hr : s.cru.releases <;> cases ha : s.cru.releaseAll <;> cases hc : s.cru.claim <;> simp_all
  · rfl

/-- R112, R116: what leaving ACTIVE does to TXE. -/
theorem leaveActive_txe (s : State) :
    (leaveActive s).txe = if s.sync.state = .active then { s.txe with conflict := 0, mark := .none } else s.txe := by
  unfold leaveActive; dsimp only; split <;> simp

/-- R62, R66, R95: CRU on entry to WITHDRAWN. -/
@[simp] theorem withdrawNow_cru (s : State) : (withdrawNow s).cru = (leaveActive s).cru := by
  unfold withdrawNow; simp

/-- R96: SYNC on entry to LISTENING. -/
theorem enterListening_sync (s : State) :
    (enterListening s).sync = { s.sync.stop with state := .listening, listenTimer := .running 0 } := rfl

@[simp] theorem enterListening_ptu (s : State) :
    (enterListening s).ptu = { s.ptu.forget with learnAttempts := 0 } := rfl

@[simp] theorem enterListening_rcm (s : State) : (enterListening s).rcm = s.rcm.clear s.cfg.config.absenceLimit := rfl

@[simp] theorem enterListening_rxe (s : State) :
    (enterListening s).rxe = { s.rxe with lastAcc := Vector.replicate 32 none, acks := [] } := rfl

/-- R90: SYNC when the cycle is suspended. -/
theorem suspend_sync (s : State) :
    (suspend s).sync =
      if s.sync.state = .active then
        { s.sync with cond := .suspended, takeoverTimer := .running (Config.takeoverDelay s.own) }
      else { s.sync with cond := .suspended, listenTimer := .running 0 } := by
  unfold suspend; dsimp only; split <;> split <;> simp_all [State.own]

/-- R32: the table when the cycle is suspended. -/
theorem suspend_ptu (s : State) :
    (suspend s).ptu = if s.sync.state = .learning ∨ s.sync.state = .relearn then s.ptu.forget else s.ptu := by
  unfold suspend; dsimp only; split <;> split <;> simp_all

@[simp] theorem suspend_lif (s : State) : (suspend s).lif = { s.lif with tx := none } := by
  unfold suspend; dsimp only; split <;> split <;> simp [cutTransmission]

@[simp] theorem suspend_rcm (s : State) :
    (suspend s).rcm = { s.rcm with record := Vector.replicate 32 none, tally := 0 } := by
  unfold suspend; dsimp only; split <;> split <;> simp [emptyRecord]

/-- R82, R84: SYNC on the way from ACTIVE to RELEARN. -/
theorem toRelearn_sync (s : State) (h : s.sync.state = .active) :
    (toRelearn s).sync =
      { s.sync with state := .relearn, holder := false, lost := if s.sync.holder then 0 else s.sync.lost } := by
  unfold toRelearn; dsimp only; split <;> simp_all [leaveActive_sync]

@[simp] theorem toRelearn_ptu (s : State) : (toRelearn s).ptu = s.ptu.forget := by
  unfold toRelearn; dsimp only; split <;> simp

/-! ## Cycle start -/

@[simp] theorem applyStaged_txe (s : State) :
    (applyStaged s).txe =
      if s.txe.applyPending then { s.txe with pattern := s.txe.staged, pointer := 0, applyPending := false }
      else s.txe := by
  unfold applyStaged; split <;> simp

/-- R5, R14: LIF at a cycle start: no slot of the new cycle has had a reception. -/
@[simp] theorem produceCycleStart_lif (s : State) :
    (produceCycleStart s).lif =
      { s.lif with rollDone := Vector.replicate 32 false, phaseDone := Vector.replicate 96 false } := by
  unfold produceCycleStart; dsimp only; split <;> simp [freshSlots]

/-- R14: SYNC at a cycle start. -/
@[simp] theorem produceCycleStart_sync (s : State) :
    (produceCycleStart s).sync = { s.sync with markerDone := false, leaveSent := false, cycleShift := 0 } := by
  unfold produceCycleStart; dsimp only; split <;> simp

/-- R44, R45: RCM at a cycle start. -/
@[simp] theorem produceCycleStart_rcm (s : State) :
    (produceCycleStart s).rcm = { s.rcm with record := Vector.replicate 32 none, tally := 0 } := by
  unfold produceCycleStart; dsimp only; split <;> simp [emptyRecord]

/-- R103: TXE at a cycle start. -/
@[simp] theorem produceCycleStart_txe (s : State) :
    (produceCycleStart s).txe =
      if s.txe.applyPending then { s.txe with pattern := s.txe.staged, pointer := 0, applyPending := false }
      else s.txe := by
  unfold produceCycleStart; dsimp only; split <;> simp

/-- R81 step 1: SYNC when a marker is taken. -/
theorem markerTiming_sync (m : Marker) (offset : Int) (restart : Bool) (s : State) :
    (markerTiming m offset restart s).sync =
      { s.sync with
        cycleNumber := some m.number, holderAddr := some m.holder, lost := 0, holderVacant := false
        takeoverTimer := .stopped, listenTimer := .stopped, cond := .running
        markerDone := true
        leaveSent := if restart then false else s.sync.leaveSent
        cycleShift := if restart then 0 else offset } := by
  unfold markerTiming; dsimp only; cases restart <;> simp

@[simp] theorem markerTiming_lif (m : Marker) (offset : Int) (restart : Bool) (s : State) :
    (markerTiming m offset restart s).lif = if restart then { s.lif with
      tx := none, rollDone := Vector.replicate 32 false, phaseDone := Vector.replicate 96 false } else s.lif := by
  unfold markerTiming; dsimp only; cases restart <;> simp [cutTransmission]

/-! ## Aging (R133 to R135, R140) -/

/-- An entry's aging either drops it from the list or keeps one entry with its frame at the tail of those kept. -/
theorem ageEntry_retry (s : State) (e : RetryEntry) :
    (ageEntry s e).dlt.retry = s.dlt.retry ∨
      ∃ e', e'.frame = e.frame ∧ (ageEntry s e).dlt.retry = s.dlt.retry ++ [e'] := by
  unfold ageEntry giveUp keepEntry; dsimp only
  split
  · left; simp
  split
  · right; exact ⟨e, rfl, by simp⟩
  split
  · split
    · right; exact ⟨{ e with age := e.age + 1, due := some s.dlt.dueCounter }, rfl, by simp⟩
    · left; simp
  · right; exact ⟨{ e with age := e.age + 1 }, rfl, by simp⟩

/-! ## Requests (R172) -/

/-- A request leaves the state as it was, or writes only the reply, or writes the reply after its own rule. -/
theorem takeRequest_cases (code : Byte) (ok : Bool) (args : List Byte) (rule : State → Result) (s : State) :
    takeRequest code ok args rule s = s ∨
      (∃ st, takeRequest code ok args rule s = answer code args st [] s) ∨
      ((s.sync.state ≠ .start ∨ code = 0x01#8) ∧
        takeRequest code ok args rule s = answer code args (rule s).status (rule s).data (rule s).state) := by
  unfold takeRequest; split
  · left; rfl
  split
  · right; left; exact ⟨_, rfl⟩
  rename_i h
  split
  · right; left; exact ⟨_, rfl⟩
  · right; right
    refine ⟨?_, rfl⟩
    by_cases hs : s.sync.state = .start
    · right; by_contra hc; exact h ⟨hs, hc⟩
    · left; exact hs

/-- A reading of the state that the reply does not touch and the request's rule keeps is kept by the request. -/
theorem takeRequest_keeps {β : Type} (p : State → β) (hp : ∀ s v, p (s.withHp v) = p s) (code : Byte) (ok : Bool)
    (args : List Byte) (rule : State → Result) (s : State) (h : p (rule s).state = p s) :
    p (takeRequest code ok args rule s) = p s := by
  rcases takeRequest_cases code ok args rule s with h1 | ⟨st, h1⟩ | ⟨_, h1⟩ <;> rw [h1]
  · exact hp _ _
  · exact (hp _ _).trans h

end Sys2Proof.Machine
end

