-- ==== Sys2Proof/Laws/PerInstr.lean ====
section
/-!
SUPPORT. Statements made per command. RequestCode: the code of a request (R190) is one of the 20 that check 1 of R172
lets through.
-/

namespace Sys2Proof.Laws.RequestCode

/-- R172, R190: the code of the request, if the command is one, names a request. -/
def Statement (i : Instr) : Prop := ∀ c, i.requestCode = some c → requestCodeNamed c = true

theorem powerOnReset : Statement .powerOnReset := by intro c h; cases h
theorem pinReset : Statement .pinReset := by intro c h; cases h
theorem start (straps : Straps) (sdaLow : Nat) : Statement (.start straps sdaLow) := by intro c h; cases h
theorem readAttemptEnd (attempt : ReadAttempt) : Statement (.readAttemptEnd attempt) := by intro c h; cases h
theorem sclHoldTimeout (clocks : Nat) : Statement (.sclHoldTimeout clocks) := by intro c h; cases h
theorem retryWaitExpiry (sdaLow : Nat) : Statement (.retryWaitExpiry sdaLow) := by intro c h; cases h
theorem transactionBegin (sdi : List Bool) : Statement (.transactionBegin sdi) := by intro c h; cases h
theorem transactionEnd (wholeBytes : Nat) : Statement (.transactionEnd wholeBytes) := by intro c h; cases h
theorem badRequest (code : Byte) (args : List Byte) : Statement (.badRequest code args) := by intro c h; cases h
theorem status (args : List Byte) : Statement (.status args) := by intro c h; cases h; rfl
theorem push (args : List Byte) : Statement (.push args) := by intro c h; cases h; rfl
theorem popRx (args : List Byte) : Statement (.popRx args) := by intro c h; cases h; rfl
theorem popRxCommit : Statement .popRxCommit := by intro c h; cases h
theorem popDone (args : List Byte) : Statement (.popDone args) := by intro c h; cases h; rfl
theorem popDoneCommit : Statement .popDoneCommit := by intro c h; cases h
theorem claim (args : List Byte) : Statement (.claim args) := by intro c h; cases h; rfl
theorem claimAt (args : List Byte) : Statement (.claimAt args) := by intro c h; cases h; rfl
theorem release (args : List Byte) : Statement (.release args) := by intro c h; cases h; rfl
theorem releaseAll (args : List Byte) : Statement (.releaseAll args) := by intro c h; cases h; rfl
theorem readTable (args : List Byte) : Statement (.readTable args) := by intro c h; cases h; rfl
theorem readFaults (args : List Byte) : Statement (.readFaults args) := by intro c h; cases h; rfl
theorem clearFaults (args : List Byte) : Statement (.clearFaults args) := by intro c h; cases h; rfl
theorem readEvents (args : List Byte) : Statement (.readEvents args) := by intro c h; cases h; rfl
theorem ackEvents (args : List Byte) : Statement (.ackEvents args) := by intro c h; cases h; rfl
theorem setEnables (args : List Byte) : Statement (.setEnables args) := by intro c h; cases h; rfl
theorem stagePattern (args : List Byte) : Statement (.stagePattern args) := by intro c h; cases h; rfl
theorem applyPattern (args : List Byte) : Statement (.applyPattern args) := by intro c h; cases h; rfl
theorem join (args : List Byte) : Statement (.join args) := by intro c h; cases h; rfl
theorem withdraw (args : List Byte) : Statement (.withdraw args) := by intro c h; cases h; rfl
theorem softReset (args : List Byte) : Statement (.softReset args) := by intro c h; cases h; rfl
theorem readConfig (args : List Byte) : Statement (.readConfig args) := by intro c h; cases h; rfl
theorem markerReceived (frame : List Byte) (offset : Int) (part : Part) (together : Bool) :
    Statement (.markerReceived frame offset part together) := by intro c h; cases h
theorem markerSlotEnd (together : Bool) : Statement (.markerSlotEnd together) := by intro c h; cases h
theorem rollWordReceived (slot : Addr) (frame : List Byte) (part : Part) (together : Bool) :
    Statement (.rollWordReceived slot frame part together) := by intro c h; cases h
theorem rollSlotDamaged (slot : Addr) (together : Bool) : Statement (.rollSlotDamaged slot together) := by intro c h; cases h
theorem dataFrameReceived (phase : Phase) (frame : List Byte) (part : Part) (together : Bool) :
    Statement (.dataFrameReceived phase frame part together) := by intro c h; cases h
theorem dataPhaseDamaged (phase : Phase) (together : Bool) :
    Statement (.dataPhaseDamaged phase together) := by intro c h; cases h
theorem ownMarkerReadBack (r : Reception) : Statement (.ownMarkerReadBack r) := by intro c h; cases h
theorem ownRollReadBack (r : Reception) : Statement (.ownRollReadBack r) := by intro c h; cases h
theorem ownDataReadBack (r : Reception) : Statement (.ownDataReadBack r) := by intro c h; cases h
theorem cycleStart : Statement .cycleStart := by intro c h; cases h
theorem ownRollSlot : Statement .ownRollSlot := by intro c h; cases h
theorem leaveSlotEnd : Statement .leaveSlotEnd := by intro c h; cases h
theorem rollCallClose : Statement .rollCallClose := by intro c h; cases h
theorem dataPhase (phase : Phase) : Statement (.dataPhase phase) := by intro c h; cases h
theorem listenTimerExpiry : Statement .listenTimerExpiry := by intro c h; cases h
theorem takeoverTimerExpiry : Statement .takeoverTimerExpiry := by intro c h; cases h
theorem lineFaultTimerExpiry (together : Bool) : Statement (.lineFaultTimerExpiry together) := by intro c h; cases h

end Sys2Proof.Laws.RequestCode
end

