-- ==== Sys2Proof/Laws/Requests.lean ====
section
/-!
SUPPORT. What taking a request does in each case of R171 and R172, in the words of the statements; the bytes that name a
station, a phase and a class read back, and the bits of a byte; a step that keeps a property.
-/

namespace Sys2Proof.Machine

/-! ## Taking a request -/

/-- R171: outside REQUEST no request is taken. -/
theorem takeRequest_not_taken (code : Byte) (ok : Bool) (args : List Byte) (rule : State → Result) (s : State)
    (h : s.hp.tx ≠ .request) : takeRequest code ok args rule s = s := by
  unfold takeRequest; rw [if_pos h]

/-- R172 check 2: in START every request but STATUS is answered STARTING. -/
theorem takeRequest_starting (code : Byte) (ok : Bool) (args : List Byte) (rule : State → Result) (s : State)
    (h : s.hp.tx = .request) (hs : s.sync.state = .start) (hc : code ≠ 0x01#8) :
    takeRequest code ok args rule s = replied code args .starting [] s := by
  simp [takeRequest, h, hs, hc, answer, replied, State.withHp]

/-- R172 check 3: a wrong argument length is answered BAD_ARG. -/
theorem takeRequest_bad_length (code : Byte) (args : List Byte) (rule : State → Result) (s : State)
    (h : s.hp.tx = .request) (hs : s.sync.state ≠ .start ∨ code = 0x01#8) :
    takeRequest code false args rule s = replied code args .badArg [] s := by
  have hn : ¬(s.sync.state = .start ∧ code ≠ 0x01#8) := by tauto
  simp only [takeRequest, h, hn, answer, replied, State.withHp]; simp

/-- R172: a request that passes the checks is answered by its own rule. -/
theorem takeRequest_by_rule (code : Byte) (args : List Byte) (rule : State → Result) (s : State)
    (h : s.hp.tx = .request) (hs : s.sync.state ≠ .start ∨ code = 0x01#8) :
    takeRequest code true args rule s = replied code args (rule s).status (rule s).data (rule s).state := by
  have hn : ¬(s.sync.state = .start ∧ code ≠ 0x01#8) := by tauto
  simp only [takeRequest, h, hn, answer, replied, State.withHp]; simp

/-! ## Bytes that name things -/

@[simp] theorem addrOf_finByte (a : Addr) : addrOf (finByte a) = some a := by
  have := a.isLt
  unfold addrOf finByte byteOf; simp
  refine ⟨by omega, ?_⟩
  apply Fin.ext; simp; omega

@[simp] theorem phaseOf_finByte (p : Phase) : phaseOf (finByte p) = some p := by
  have := p.isLt
  unfold phaseOf finByte byteOf; simp
  refine ⟨by omega, ?_⟩
  apply Fin.ext; simp; omega

@[simp] theorem clsOf_byte (c : Cls) : clsOf c.byte = some c := by cases c <;> decide

theorem finByte_ne_broadcast (a : Addr) : finByte a ≠ 63#8 := by revert a; decide +kernel

/-- R3, R5: bytes followed by their 16-bit check pass it. -/
theorem check16Ok_append (l : List Byte) : check16Ok (l ++ check16 l) = true := by
  simp [check16Ok, check16, halfBytes]

/-- R4, R5: bytes followed by their 32-bit check pass it. -/
theorem check32Ok_append (l : List Byte) : check32Ok (l ++ check32 l) = true := by
  simp [check32Ok, check32]

/-- R39, R86, R111: a read-back that is not the bytes sent is not intact. -/
theorem readBackIntact_eq (sent : List Byte) (r : Reception) :
    readBackIntact sent r = true ↔ r = .bytes sent := by
  cases r <;> simp [readBackIntact]

/-! ## Bits of a byte (R2, R170) -/

@[simp] theorem byteBits_length (b : Byte) : (byteBits b).length = 8 := by simp [byteBits]

/-- The bits of a byte make that byte. -/
@[simp] theorem byteOfBits_byteBits (b : Byte) : byteOfBits (byteBits b) = b := by revert b; decide +kernel

/-- Eight bits are those of the byte they make. -/
theorem byteBits_byteOfBits (l : List Bool) (h : l.length = 8) : byteBits (byteOfBits l) = l := by
  have all : ∀ a b c d e f g i : Bool, byteBits (byteOfBits [a, b, c, d, e, f, g, i]) = [a, b, c, d, e, f, g, i] := by
    decide +kernel
  match l, h with
  | [a, b, c, d, e, f, g, i], _ => exact all a b c d e f g i

/-- R170: bit `j` of a byte in the order of travel, the most significant first. -/
theorem byteBits_get (b : Byte) (j : Fin 8) : (byteBits b)[j.val]? = some (b.getLsbD (7 - j.val)) := by
  revert b j; decide +kernel

/-! ## Steps -/

/-- R170: what the clocks of SCK write of the port: what is still to come, the byte in progress, the transaction state,
the request and the reply. -/
structure Clocked (h h' : Hp) : Prop where
  level : h'.csLow = h.csLow
  reset : h'.softReset = h.softReset
  events : h'.events = h.events
  enables : h'.enables = h.enables

/-- R171: a whole byte writes the port alone, and of it what clocks write. -/
theorem shiftByte_port (b : Byte) (s : State) :
    shiftByte b s = s.withHp (shiftByte b s).hp ∧ Clocked s.hp (shiftByte b s).hp := by
  unfold shiftByte; dsimp only
  (repeat' split) <;> exact ⟨rfl, ⟨rfl, rfl, rfl, rfl⟩⟩

/-- R170, R171: what one clock of SCK can do: write the port, and then, where a byte completes a request or the reply of a
pop, carry out a command. -/
theorem clockPort_cases (s : State) :
    ∃ h, Clocked s.hp h ∧ (clockPort s = .next (s.withHp h) ∨ ∃ c, clockPort s = exec c (s.withHp h)) := by
  unfold clockPort
  split
  · exact ⟨s.hp, ⟨rfl, rfl, rfl, rfl⟩, .inl rfl⟩
  · rename_i v rest _
    dsimp only
    split
    · exact ⟨{ s.hp with sdi := rest, bits := s.hp.bits ++ [v] }, ⟨rfl, rfl, rfl, rfl⟩, .inl rfl⟩
    · obtain ⟨he, hc⟩ := shiftByte_port (byteOfBits (s.hp.bits ++ [v])) (s.withHp { s.hp with sdi := rest, bits := [] })
      split
      · exact ⟨_, ⟨hc.level, hc.reset, hc.events, hc.enables⟩, .inl (congrArg _ he)⟩
      · rename_i c _
        exact ⟨_, ⟨hc.level, hc.reset, hc.events, hc.enables⟩, .inr ⟨c, congrArg (exec c) he⟩⟩

/-- A property that no command and no clock of the port breaks and that does not speak of the queue is kept by every
step. -/
theorem step_keeps {P : State → Prop} (queue : ∀ s q, P s → P (s.withPending q))
    (port : ∀ s h, Clocked s.hp h → P s → P (s.withHp h))
    (command : ∀ i s t, P s → exec i s = .next t → P t) : ∀ s t, P s → step s = .next t → P t := by
  intro s t hs ht
  unfold step at ht
  split at ht
  · obtain ⟨h, hc, hn | ⟨c, he⟩⟩ := clockPort_cases s
    · rw [hn] at ht; cases ht; exact port _ _ hc hs
    · exact command _ _ _ (port _ _ hc hs) (he ▸ ht)
  · exact command _ _ _ (queue _ _ hs) ht

end Sys2Proof.Machine
end

