-- ==== Sys2Proof/Laws/Withdrawal.lean ====
section
/-!
SUPPORT. Entry to WITHDRAWN and entry to RELEARN, said whole: every block after it.
-/

namespace Sys2Proof.Machine

theorem foldl_complete_hp (l : List TxFrame) (s : State) (h : s.dlt.done ≠ []) :
    (l.foldl (fun t f => complete .flushed f t) s).hp = s.hp := by
  induction l generalizing s with
  | nil => rfl
  | cons f l ih => rw [List.foldl_cons, ih _ (by simp), complete_hp]; simp [h]

/-- R145: the flush sets DONE_READY pending if the list was empty and the flush adds a buffer. -/
theorem flush_hp (s : State) :
    (flush s).hp =
      if s.dlt.done = [] ∧ waitingFrames s ≠ [] then { s.hp with events := s.hp.events ||| Event.doneReady.bit }
      else s.hp := by
  unfold flush; dsimp only
  cases hw : waitingFrames s with
  | nil => simp
  | cons f l => rw [List.foldl_cons, foldl_complete_hp _ _ (by simp), complete_hp]; simp

theorem leaveActive_hp (s : State) :
    (leaveActive s).hp = { s.hp with events := s.hp.events ||| eventsOnLeavingActive s } := by
  unfold leaveActive eventsOnLeavingActive
  by_cases h : s.sync.state = .active
  · simp only [h, if_true, State.withTxe_hp]
    unfold abortReleases abortClaim dropHolder endClaim
    cases hh : s.sync.holder <;> cases hc : s.cru.claim <;> cases hr : s.cru.releases <;>
      cases ha : s.cru.releaseAll <;>
      simp [hc, hr, ha, post, State.withHp, State.withCru, State.withSync] <;>
      simp [Event.bit, Event.index, BitVec.or_assoc]
  · simp [h]

theorem leaveActive_cru_eq (s : State) : (leaveActive s).cru = cruOnLeavingActive s := by
  rw [leaveActive_cru]; unfold cruOnLeavingActive
  cases hr : s.cru.releases <;> cases ha : s.cru.releaseAll <;> cases hc : s.cru.claim <;> simp

/-- R95: entry to WITHDRAWN. -/
theorem withdrawNow_whole (s : State) : WithdrawnFrom s (withdrawNow s) := by
  constructor
  · simp
  · rw [withdrawNow_sync]; rfl
  · simp [Ptu.forget, Ptu.reset]
  · simp [Rcm.clear, Rcm.reset]
  · rw [withdrawNow_cru, leaveActive_cru_eq]
  · simp
  · simp [waitingFrames]
  · simp
  · unfold withdrawNow; simp
  · unfold withdrawNow; simp
  · have h : ∀ l y, waitingFrames (((leaveActive s).withLif l).withSync y) = waitingFrames s := by
      intro l y; unfold waitingFrames leaveActive; dsimp only; split <;> simp
    have hd : (leaveActive s).dlt = s.dlt := by simp
    have hw : waitingFrames s ≠ [] ↔ 0 < s.txe.queued + s.dlt.retry.length := by
      unfold waitingFrames Txe.queued
      rw [← List.length_pos_iff]; simp; omega
    unfold withdrawNow
    simp only [post_hp, enter, State.withSync_hp, clearPresence, freshSources, forgetTable, State.withRcm_hp,
      State.withPtu_hp, State.withRxe_hp, State.withTxe_hp, flush_hp, h, State.withLif_hp, leaveActive_hp,
      State.withLif_dlt, State.withSync_dlt, hd, hw]
    split <;> simp [Event.bit, Event.index] <;> ac_rfl
  · unfold withdrawNow; simp

/-- R82: from ACTIVE to RELEARN. -/
theorem toRelearn_whole (s : State) (h : s.sync.state = .active) : RelearningFrom s (toRelearn s) := by
  have hcru : (toRelearn s).cru = (leaveActive s).cru := by unfold toRelearn; dsimp only; split <;> simp
  have htxe : (toRelearn s).txe = (leaveActive s).txe := by unfold toRelearn; dsimp only; split <;> simp
  constructor
  · simp
  · rw [toRelearn_sync _ h]
  · simp [Ptu.forget, Ptu.reset]
  · simp
  · rw [hcru, leaveActive_cru_eq]
  · rw [htxe, leaveActive_txe]; simp [h]
  · simp
  · simp
  · simp
  · simp
  · unfold toRelearn enter; dsimp only; split <;> simp [forgetTable, leaveActive_hp, Event.bit, Event.index] <;> ac_rfl
  · unfold toRelearn; dsimp only; split <;> simp

end Sys2Proof.Machine
end

