-- ==== Sys2Proof/Tests/Slice0.lean ====
section
/-!
SUPPORT. Tests: an ill-formed command for every check of WellFormed; the check values of R3 and R4; small tests of single
commands, each expected result taken from the rule or worked sequence of the spec that its comment names; and, for every
statement with hypotheses, a state and operands that meet them, clause by clause.
-/

namespace Sys2Proof.Tests

open Sys2Proof.Machine

set_option Elab.async false

/-! ## Small states -/

/-- A station at address 5 that START has left with the default configuration, in this sync state and condition. -/
def station (st : SyncState) (c : CycleCond) : State :=
  { State.reset with
    sync := { Sync.reset with
      state := st, cond := c
      cycleNumber := if st.timed then some 7#16 else none
      holderAddr := if st.timed then some 1 else none }
    cfg := { Cfg.reset with
      straps := { addr := 5, rate := false, cfgSrc := false }, source := some .defaultsByStrap, step := .done } }

/-- The station with a transaction whose request is coming in. -/
def asking (s : State) : State := { s with hp := { s.hp with csLow := true, tx := .request } }

/-- The station with this table, all of it known; its digest stands for the table's, and no test computes that. -/
def knowing (f : Phase → Entry) (s : State) : State :=
  { s with ptu := { Ptu.reset with table := tab f, digest := some 0x5555#16, known := Vector.replicate 8 true } }

/-- Phase 3 is the station's own, phase 4 that of station 2, phase 8 cools; every other phase is VACANT. -/
def threeEntries (k : Phase) : Entry :=
  if k = 3 then .owned 5 else if k = 4 then .owned 2 else if k = 8 then .cooling1 else .vacant

/-- An ACTIVE station at address 5 under the holder at 1, with stations 1, 2 and 5 present. -/
def active : State :=
  let s := knowing threeEntries (station .active .running)
  { s with rcm := { s.rcm with presence := tab fun a => if a = 1 ∨ a = 2 ∨ a = 5 then some 0 else none } }

/-- The same station as timing holder. -/
def holder : State := { active with sync := { active.sync with holder := true, holderAddr := some 5 } }

/-- The state that a command answers. -/
def after (i : Instr) (s : State) : State :=
  match exec i s with
  | .next t => t
  | .fault f => nomatch f
  | .refused _ => s

/-- A start marker of the holder at 1, before its check: cycle 8, limit 3, stations 1, 2 and 5 present with count 0, digest
1234h, a segment of VACANT entries. -/
def markerBody : List Byte :=
  [0x3C#8, 0x00#8, 0x08#8, 0x01#8, 0x03#8, 0x64#8, 0x00#8, 0x00#8, 0x00#8] ++ List.replicate 12 0x00#8 ++
    [0x12#8, 0x34#8] ++ List.replicate 12 0x00#8

/-- The marker's bytes. -/
def markerBytes : List Byte := markerBody ++ check16 markerBody

/-- What the marker holds. -/
def marker : Marker :=
  { number := 8#16, holder := 1, limit := 3, presence := tab fun a => if a = 1 ∨ a = 2 ∨ a = 5 then some 0 else none,
    digest := 0x1234#16, segment := Vector.replicate 12 0#8 }

/-- A normal roll word of station 2 without lists, with this digest. -/
def rollWord (d : Half) : RollWord :=
  { sender := 2#8, join := false, leave := false, releaseAll := false, relearning := false, degraded := false,
    digest := d, claims := [], releases := [], acks := [] }

/-- A data frame of station 2 to this destination. -/
def dataFrame (dest seq : Byte) : DataFrame :=
  { source := 2#8, dest := dest, cls := 1#8, seq := seq, payload := [0xAA#8, 0xBB#8, 0xCC#8, 0xDD#8] }

/-- The bytes of the roll word with digest 1234h, its check 8CFDh. -/
def rollWordBytes : List Byte := [0x5A#8, 0x02#8, 0x00#8, 0x12#8, 0x34#8, 0x00#8, 0x00#8, 0x8C#8, 0xFD#8]

/-- The same roll word with an ack for station 5, sequence 9, its check 39ABh. -/
def rollWordAckBytes : List Byte :=
  [0x5A#8, 0x02#8, 0x00#8, 0x12#8, 0x34#8, 0x00#8, 0x01#8, 0x05#8, 0x09#8, 0x39#8, 0xAB#8]

/-- A data frame of station 2, class 1, sequence 9, without payload, to station 5. -/
def frameToUs : List Byte := [0x96#8, 0x02#8, 0x05#8, 0x01#8, 0x09#8, 0x00#8, 0xE7#8, 0xF4#8, 0xAB#8, 0xD8#8]

/-- The same frame to all stations. -/
def frameToAll : List Byte := [0x96#8, 0x02#8, 0x3F#8, 0x01#8, 0x09#8, 0x00#8, 0xBF#8, 0xF9#8, 0x70#8, 0x59#8]

/-- The same frame to station 7. -/
def frameToSeven : List Byte := [0x96#8, 0x02#8, 0x07#8, 0x01#8, 0x09#8, 0x00#8, 0x5B#8, 0xEE#8, 0x83#8, 0x01#8]

/-- What those three frames hold. -/
def shortFrame (dest : Byte) : DataFrame := { source := 2#8, dest := dest, cls := 1#8, seq := 9#8, payload := [] }

/-- A queued frame of class 0 to this destination. -/
def queued (d : Dest) : TxFrame :=
  { dest := d, cls := .c0, tag := 0x0102#16, payload := [], seq := none, attempts := 0 }

/-- A retry entry for station 2, sent once with sequence 9. -/
def waiting (age : Nat) (due : Option Byte) (closed : Bool) : RetryEntry :=
  { frame := { queued (.unicast 2) with seq := some 9#8, attempts := 1 }, age := age, due := due, closed := closed }

/-! ## WellFormed refuses ill-formed commands -/

theorem test_wf_pulses : (Instr.start ⟨0, false, true⟩ 11).wellFormed = false ∧
    (Instr.start ⟨0, false, true⟩ 10).wellFormed = true ∧ (Instr.retryWaitExpiry 11).wellFormed = false := by decide
theorem test_wf_clocks : (Instr.sclHoldTimeout 243).wellFormed = false ∧ (Instr.sclHoldTimeout 242).wellFormed = true := by
  decide
theorem test_wf_part : (Instr.markerReceived (0x3C#8 :: List.replicate 36 0#8) 0 .begins).wellFormed = false ∧
    (Instr.markerReceived [0x5A#8] 0 .begins).wellFormed = false ∧
    (Instr.markerReceived (List.replicate 37 0#8) 0 .ends).wellFormed = false := by decide +kernel
theorem test_wf_whole_bytes : (Instr.transactionEnd 257).wellFormed = false := by decide
theorem test_wf_bad_request_code : (Instr.badRequest 0x14#8 []).wellFormed = false ∧
    (Instr.badRequest 0x15#8 []).wellFormed = true := by decide
theorem test_wf_args : (Instr.push (List.replicate 256 0#8)).wellFormed = false ∧
    (Instr.push (List.replicate 255 0#8)).wellFormed = true := by decide +kernel
theorem test_wf_bad_request_args : (Instr.badRequest 0x15#8 (List.replicate 256 0#8)).wellFormed = false := by
  decide +kernel
theorem test_wf_marker : (Instr.markerReceived [0x3C#8] 0).wellFormed = false ∧
    (Instr.markerReceived (0x5A#8 :: List.replicate 36 0#8) 0).wellFormed = false := by decide +kernel
theorem test_wf_roll_word : (Instr.rollWordReceived 0 (0x5A#8 :: List.replicate 7 0#8)).wellFormed = false ∧
    (Instr.rollWordReceived 0 (0x5A#8 :: List.replicate 33 0#8)).wellFormed = false := by decide +kernel
theorem test_wf_data_frame : (Instr.dataFrameReceived 0 (0x96#8 :: List.replicate 8 0#8)).wellFormed = false ∧
    (Instr.dataFrameReceived 0 (0x96#8 :: List.replicate 70 0#8)).wellFormed = false := by decide +kernel
theorem test_wf_read_back : (Instr.ownDataReadBack (.bytes (List.replicate 71 0#8))).wellFormed = false := by
  decide +kernel

/-! ## Checks and formats -/

/-- The standard check input 31h..39h: 29B1h for the preset, uninverted 16-bit division by 1021h (R3). -/
theorem test_crc16_check_value :
    crc16 [0x31#8, 0x32#8, 0x33#8, 0x34#8, 0x35#8, 0x36#8, 0x37#8, 0x38#8, 0x39#8] = 0x29B1#16 := by decide +kernel
/-- The same input: FC891918h for the preset, inverted 32-bit division by 04C11DB7h (R4). -/
theorem test_crc32_check_value :
    crc32 [0x31#8, 0x32#8, 0x33#8, 0x34#8, 0x35#8, 0x36#8, 0x37#8, 0x38#8, 0x39#8] = 0xFC891918#32 := by decide +kernel
/-- R186: address 0 is the top bit of the first byte, address 31 the lowest of the fourth. -/
theorem test_address_set :
    addressSet (tab fun a => decide (a = 0 ∨ a = 9 ∨ a = 31)) = [0x80#8, 0x40#8, 0x00#8, 0x01#8] := by decide +kernel
/-- R187: 3 bits per address from the top; counts 5, 0, 7 at addresses 0, 1, 2. -/
theorem test_count_bytes :
    (countBytes (tab fun a => if a = 0 then 5 else if a = 2 then 7 else 0)).take 2 = [0xA3#8, 0x80#8] := by
  decide +kernel
/-- R188: the flags byte is JOIN, LEAVE, RELEASE_ALL, RELEARNING, DEGRADED from bit 7 down. -/
theorem test_roll_word_bytes :
    (RollWord.body { rollWord 0x1234#16 with leave := true, degraded := true, acks := [(5#8, 9#8)] }) =
      [0x5A#8, 2#8, 0x48#8, 0x12#8, 0x34#8, 0#8, 1#8, 5#8, 9#8] := by decide +kernel
/-- R189: kind, source, destination, class, sequence, length, payload. -/
theorem test_data_frame_bytes :
    (dataFrame 63#8 7#8).body =
      [0x96#8, 2#8, 63#8, 1#8, 7#8, 4#8, 0xAA#8, 0xBB#8, 0xCC#8, 0xDD#8] := by decide +kernel
/-- R2: nothing in bit time 7; the preamble AAh is bits 10101010 from bit time 8, the delimiter B3h bits 10110011 from 16;
a frame of one byte 3Ch ends with bit time 31. -/
theorem test_driven_bits :
    (List.range 26).map (fun i => TxRecord.drivenBit { frame := .marker, bytes := [0x3C#8] } (7 + i)) =
      [none, some true, some false, some true, some false, some true, some false, some true, some false,
        some true, some false, some true, some true, some false, some false, some true, some true,
        some false, some false, some true, some true, some true, some true, some false, some false, none] := by
  decide +kernel
/-- R162: 3 bytes written and 24 read, each of 9 clocks, with one start, one repeated start and one stop condition. -/
theorem test_read_transaction : clockCount (readTransaction true true true) = 243 ∧
    (readTransaction true true true).length = 246 ∧
    (readTransaction true true true).take 10 =
      [.startCondition, .bit true, .bit false, .bit true, .bit false, .bit false, .bit false, .bit false, .bit false,
        .bit true] := by decide +kernel
/-- R171, R190: code 05h is CLAIM, with 1 argument byte; what follows is disregarded, and a byte less is no request. -/
theorem test_request_of : requestOf [0x05#8, 1#8, 4#8, 0xEE#8] = some (.claim [4#8]) ∧
    requestOf [0x05#8, 1#8] = none ∧ requestOf [0x15#8, 0#8] = some (.badRequest 0x15#8 []) := by decide
/-- R5: a frame with one changed bit is no intact frame. -/
theorem test_damaged_roll_word : parseRollWord (rollWordBytes.set 1 0x03#8) = none := by decide +kernel
/-- R194: a record of the default configuration, written out byte by byte, with its check byte. -/
theorem test_default_record :
    (recordOf Configuration.defaults).toList =
      [0xC7#8, 0x2E#8, 1#8, 3#8, 4#8, 3#8, 24#8, 0#8, 0#8, 0#8, 0#8, 0#8, 0x01#8, 0x02#8, 0x01#8, 0x03#8, 0x01#8,
        0x02#8, 0x01#8, 0x03#8, 0#8, 0#8, 0#8, 0xDA#8] := by decide +kernel

/-- R187: the marker's fields at their places. -/
theorem test_marker_parses : parseMarker markerBytes = some marker := by
  have hl : markerBytes.length = 37 := by simp [markerBytes, markerBody, check16, halfBytes]
  have hk : at' markerBytes 0 = 0x3C#8 := by decide +kernel
  have hh : addrOf (at' markerBytes 3) = some 1 := by decide +kernel
  have ha : (at' markerBytes 4).toNat = 3 := by decide +kernel
  have hp : markerPresence markerBytes = marker.presence := by decide +kernel
  have hn : half (at' markerBytes 1) (at' markerBytes 2) = 8#16 := by decide +kernel
  have hd : half (at' markerBytes 21) (at' markerBytes 22) = 0x1234#16 := by decide +kernel
  have hs : (tab fun i : Fin 12 => at' markerBytes (23 + i.val)) = Vector.replicate 12 0#8 := by decide +kernel
  unfold parseMarker
  rw [if_pos ⟨hl, hk, check16Ok_append _⟩, hh]
  simp only [ha, hp, hn, hd, hs]
  rfl
/-- R188. -/
theorem test_roll_words_parse : parseRollWord rollWordBytes = some (rollWord 0x1234#16) ∧
    parseRollWord rollWordAckBytes = some { rollWord 0x1234#16 with acks := [(5#8, 9#8)] } := by decide +kernel
/-- R189. -/
theorem test_data_frames_parse : parseDataFrame frameToUs = some (shortFrame 5#8) ∧
    parseDataFrame frameToAll = some (shortFrame 63#8) ∧ parseDataFrame frameToSeven = some (shortFrame 7#8) := by
  decide +kernel

/-! ## Single commands -/

/-- R168: after a power-on reset the station is in START with the fault record cleared. -/
theorem test_power_on_reset : (after .powerOnReset (recordFault .markerLost .none active)).sync.state = .start ∧
    (after .powerOnReset (recordFault .markerLost .none active)).fru = Fru.cleared := by decide +kernel
/-- R168: a pin reset keeps the fault record and empties the table. -/
theorem test_pin_reset : (after .pinReset (recordFault .markerLost .none active)).fru.counts[1] = 1 ∧
    (after .pinReset active).ptu.table[3] = .unknown := by decide +kernel
/-- R164 to R167: START without a record: the strap's address, source DEFAULTS_BY_STRAP, OFFLINE. -/
theorem test_start_defaults : (after (.start ⟨9, true, false⟩ 0) State.reset).sync.state = .offline ∧
    (after (.start ⟨9, true, false⟩ 0) State.reset).own = 9 ∧
    (after (.start ⟨9, true, false⟩ 0) State.reset).cfg.source = some .defaultsByStrap := by decide +kernel
/-- R162: a CFG_SDA that is low for 4 pulses lets the first attempt read after 4 pulses. -/
theorem test_start_reads : (after (.start ⟨9, true, true⟩ 4) State.reset).cfg.step = .reading ∧
    (after (.start ⟨9, true, true⟩ 4) State.reset).cfg.sclPulses = 4 := by decide +kernel

/-- A station whose first read attempt is in progress. -/
def reading : State := after (.start ⟨9, true, true⟩ 0) State.reset

/-- R163, R164: a record with a wrong signature puts the defaults in force with SIGNATURE and CONFIG_DEFAULTED. -/
theorem test_record_signature :
    (after (.readAttemptEnd ⟨true, true, true, Vector.replicate 24 0#8⟩) reading).cfg.failure = some .signature ∧
    (after (.readAttemptEnd ⟨true, true, true, Vector.replicate 24 0#8⟩) reading).fru.counts[0] = 1 := by
  decide +kernel
/-- R163, R166: the default record is taken as it stands, with source RECORD. -/
theorem test_record_taken :
    (after (.readAttemptEnd ⟨true, true, true, recordOf Configuration.defaults⟩) reading).cfg.source = some .record ∧
    (after (.readAttemptEnd ⟨true, true, true, recordOf Configuration.defaults⟩) reading).cfg.config =
      Configuration.defaults := by decide +kernel
/-- R162: a held clock fails the first attempt, and the wait follows. -/
theorem test_scl_hold : (after (.sclHoldTimeout 0) reading).cfg.step = .waiting := by decide +kernel
/-- R162: the second attempt begins after the wait; a bus that stays low at the third ends with BUS_FAULT. -/
theorem test_retry_wait : (after (.retryWaitExpiry 0) (after (.sclHoldTimeout 0) reading)).cfg.attempts = 2 ∧
    (after (.retryWaitExpiry 10) (after (.retryWaitExpiry 10) (after (.sclHoldTimeout 0) reading))).cfg.failure =
      some .busFault := by decide +kernel
/-- R162: three bytes that the memory acknowledges and a clock held in the fourth: 27 clocks, then both pins released. -/
theorem test_scl_hold_pins : clockCount (after (.sclHoldTimeout 27) reading).cfg.bus = 27 ∧
    (after (.sclHoldTimeout 27) reading).cfgPins.getLast? = some (false, false) := by decide +kernel
/-- R171: a falling CS_N takes the port from IDLE to REQUEST. -/
theorem test_transaction_begin : (after .transactionBegin active).hp.tx = .request := by decide +kernel
/-- R173: a request cut short after 1 whole byte is HOST_PROTOCOL in ACTIVE, after none it is not. -/
theorem test_transaction_end : (after (.transactionEnd 1) (asking active)).fru.counts[11] = 1 ∧
    (after (.transactionEnd 0) (asking active)).fru.counts[11] = 0 := by decide +kernel
/-- R172: check 1 comes before STARTING. -/
theorem test_bad_request : (after (.badRequest 0x15#8 []) (asking State.reset)).hp.reply =
    some { status := .badRequest, data := [], shifted := 0 } := by decide +kernel
/-- R177, R191, R192: STATUS in START shows state 00h, FFh for no holder and 63 bytes. -/
theorem test_status : (after (.status []) (asking State.reset)).hp.reply.map (fun r => (r.data.take 4, r.data.length)) =
    some ([0#8, 0#8, 0#8, 0xFF#8], 63) := by decide +kernel
/-- R171, R190: SDO shows OK, then the length 63; the port is in TRAILING, showing 00h, after the 65th byte of STATUS. -/
theorem test_sdo_bytes :
    (let s := after (.status []) { asking active with pending := [] };
      s.sdoByte = some 0#8 ∧ (shiftByte 0#8 s).sdoByte = some 63#8) ∧
    (let s := after (.status []) (asking active);
      (shiftByte 0#8 (s.withHp { s.hp with reply := s.hp.reply.map fun r => { r with shifted := 64 } })).hp.tx =
        .trailing) := by
  decide +kernel
/-- R170: bit 3 of the byte in progress is bit 4 of the length 63 = 00111111b that goes out meanwhile. -/
theorem test_sdo_bit : (let s := shiftByte 0#8 (after (.status []) (asking active));
    (s.withHp { s.hp with bits := [true, false, true] }).sdoBit = some true ∧
    (s.withHp { s.hp with bits := [true] }).sdoBit = some false) := by decide +kernel

/-- The ACTIVE station whose card controller has this to shift in, of a request that has come so far. -/
def clocked (request : List Byte) (bits sdi : List Bool) : State :=
  { asking active with hp := { (asking active).hp with request := request, bits := bits, sdi := sdi } }

/-- The state after a step. -/
def next (s : State) : State :=
  match step s with
  | .next t => t
  | .fault f => nomatch f
  | .refused _ => s

/-- R170, R171: a clock brings one bit; 00000001b, most significant bit first, is code 01h, which its length 00h
completes: STATUS is taken with the last bit. -/
theorem test_clocks : (next (clocked [] [] [true, false])).hp.bits = [true] ∧
    (next (clocked [] (List.replicate 7 false) [true])).hp.request = [0x01#8] ∧
    (next (clocked [0x01#8] (List.replicate 7 false) [false])).hp.tx = .reply ∧
    (next (clocked [0x01#8] (List.replicate 7 false) [false])).hp.reply.map (fun r => r.data.length) = some 63 := by
  decide +kernel
/-- R171: SDO is high-impedance in IDLE and shows 00h in REQUEST. -/
theorem test_sdo_levels : active.sdoHighZ = true ∧ (asking active).sdoByte = some 0#8 := by decide +kernel
/-- R98: a PUSH of 4 bytes to station 2, class 1, tag 0102h. -/
theorem test_push : (after (.push [2#8, 1#8, 1#8, 2#8, 4#8, 9#8, 9#8, 9#8, 9#8]) (asking active)).txe.q1 =
    [{ dest := .unicast 2, cls := .c1, tag := 0x0102#16, payload := [9#8, 9#8, 9#8, 9#8], seq := none,
       attempts := 0 }] ∧
    (after (.push [2#8, 1#8, 1#8, 2#8, 4#8, 9#8, 9#8, 9#8, 9#8]) (asking active)).txe.free = 47 := by decide +kernel
/-- R98: the own address as destination is BAD_ARG. -/
theorem test_push_own : (after (.push [5#8, 1#8, 1#8, 2#8, 0#8]) (asking active)).hp.reply.map Reply.status =
    some .badArg := by decide +kernel

/-- The ACTIVE station with one record in its receive queue and one completion. -/
def withItems : State :=
  { active with
    rxe := { active.rxe with queue := [{ source := 2, dest := .broadcast, cls := .c1, seq := 9#8, payload := [],
                                         cycle := 7#16, phase := 4 }] }
    txe := { active.txe with free := 47 }
    dlt := { active.dlt with done := [{ frame := queued (.unicast 2), status := .delivered, cycle := none }] } }

/-- R127, R193: POP_RX shows source, destination, class, sequence, length, cycle and phase. -/
theorem test_pop_rx : (after (.popRx []) (asking withItems)).hp.reply.map Reply.data =
    some [2#8, 63#8, 1#8, 9#8, 0#8, 0#8, 7#8, 4#8] := by decide +kernel
/-- R174: the head leaves at the commit. -/
theorem test_pop_rx_commit : (after .popRxCommit (after (.popRx []) (asking withItems))).rxe.queue = [] ∧
    (after (.popRx []) (asking withItems)).rxe.queue.length = 1 := by decide +kernel
/-- R144, R193: POP_DONE shows tag, status, destination, class, attempts and a cycle that is not known. -/
theorem test_pop_done : (after (.popDone []) (asking withItems)).hp.reply.map Reply.data =
    some [1#8, 2#8, 0#8, 2#8, 0#8, 0#8, 0#8, 0#8, 0#8] := by decide +kernel
/-- R100, R174: the commit frees the buffer. -/
theorem test_pop_done_commit : (after .popDoneCommit (after (.popDone []) (asking withItems))).txe.free = 48 := by
  decide +kernel
/-- R56: CLAIM 8 in ACTIVE with 1 phase owned and a quota of 24. -/
theorem test_claim : (after (.claim [8#8]) (asking active)).cru.claim =
    some { kind := .count, requested := 8, granted := [], attempts := 0 } := by decide +kernel
/-- R57: phase 4 is not VACANT; phase 95 is. -/
theorem test_claim_at : (after (.claimAt [4#8]) (asking active)).hp.reply.map Reply.status = some .notVacant ∧
    (after (.claimAt [95#8]) (asking active)).cru.claim.map Claim.kind = some (.at 95) := by decide +kernel
/-- R63: phase 3 is the station's own; phase 4 is not. -/
theorem test_release : (after (.release [3#8]) (asking active)).cru.releases = [3] ∧
    (after (.release [4#8]) (asking active)).hp.reply.map Reply.status = some .notOwner := by decide +kernel
/-- R64. -/
theorem test_release_all : (after (.releaseAll []) (asking active)).cru.releaseAll = true := by decide +kernel
/-- R25, R186: the first bytes of segment 0: phases 3, 4 and 8 at their places. -/
theorem test_read_table : (after (.readTable [0#8]) (asking active)).hp.reply.map (fun r => r.data.take 9) =
    some [0#8, 0#8, 0#8, 0x85#8, 0x82#8, 0#8, 0#8, 0#8, 0x41#8] := by decide +kernel
/-- R154, R193: MARKER_LOST is kind 1, its flag and count at bytes 2 and 3; the first fault's kind at byte 38. -/
theorem test_read_faults : (after (.readFaults []) (asking (recordFault .markerLost .none active))).hp.reply.map
    (fun r => (r.data.getD 2 0#8, r.data.getD 3 0#8, r.data.getD 38 0#8, r.data.length)) =
      some (1#8, 1#8, 1#8, 50) := by decide +kernel
/-- R158: the record is cleared and the pending FAULT event stays. -/
theorem test_clear_faults : (after (.clearFaults []) (asking (recordFault .markerLost .none active))).fru.first = none ∧
    (after (.clearFaults []) (asking (recordFault .markerLost .none active))).isPending .fault = true := by
  decide +kernel
/-- R183, R190: FAULT is bit 7 of the event set. -/
theorem test_read_events : (after (.readEvents []) (asking (post .fault active))).hp.reply.map Reply.data =
    some [0#8, 0x80#8, 0#8, 0#8] := by decide +kernel
/-- R183: ACK_EVENTS of FAULT leaves HOLDER pending. -/
theorem test_ack_events :
    (after (.ackEvents [0#8, 0x80#8]) (asking (post .holder (post .fault active)))).hp.events = 0x040#9 := by
  decide +kernel
/-- R181: bit 9 names no event; PATTERN_APPLIED is bit 8. -/
theorem test_set_enables : (after (.setEnables [2#8, 0#8]) (asking active)).hp.reply.map Reply.status = some .badArg ∧
    (after (.setEnables [1#8, 0#8]) (asking active)).hp.enables = 0x100#9 := by decide +kernel
/-- R102: a class of 4 is BAD_ARG. -/
theorem test_stage_pattern :
    (after (.stagePattern (4#8 :: List.replicate 15 3#8)) (asking active)).hp.reply.map Reply.status = some .badArg ∧
    (after (.stagePattern (List.replicate 16 3#8)) (asking active)).txe.staged = Vector.replicate 16 .c3 := by
  decide +kernel
/-- R103. -/
theorem test_apply_pattern : (after (.applyPattern []) (asking active)).txe.applyPending = true := by decide +kernel
/-- R93: JOIN in OFFLINE starts the listen timer and the line-fault timer; in ACTIVE it is STATE. -/
theorem test_join : (after (.join []) (asking (station .offline .none))).sync.listenTimer = .running 0 ∧
    (after (.join []) (asking active)).hp.reply.map Reply.status = some .state := by decide +kernel
/-- R94: WITHDRAW waits in ACTIVE and is done at once in LISTENING. -/
theorem test_withdraw : (after (.withdraw []) (asking active)).sync.withdrawPending = true ∧
    (after (.withdraw []) (asking (station .listening .none))).sync.state = .withdrawn := by decide +kernel
/-- R175: the reset comes with the rising edge. -/
theorem test_soft_reset : (after (.softReset []) (asking active)).sync.state = .active ∧
    (after (.transactionEnd 0) (after (.softReset []) (asking active))).sync.state = .start := by decide +kernel
/-- R179, R193: limit 3, timeout 4, retries 3, quota 24; the own address at byte 25. -/
theorem test_read_config : (after (.readConfig []) (asking active)).hp.reply.map
    (fun r => (r.data.take 4, r.data.getD 25 0#8)) = some ([3#8, 4#8, 3#8, 24#8], 5#8) := by decide +kernel

/-- The ACTIVE station with the digest that the test marker carries. -/
def agreeing : State := { active with ptu := { active.ptu with digest := some 0x1234#16 } }

/-- The station at address 7. -/
def atSeven (s : State) : State := { s with cfg := { s.cfg with straps := { s.cfg.straps with addr := 7 } } }

/-- R81: a marker in the window sets the cycle number. -/
theorem test_marker_taken : (handleMarker marker 16 agreeing).sync.cycleNumber = some 8#16 ∧
    (handleMarker marker 17 agreeing).sync.cycleNumber = some 7#16 := by decide +kernel
/-- R82: a marker with another digest starts relearning. -/
theorem test_marker_diverged : (handleMarker marker 0 active).sync.state = .relearn ∧
    (handleMarker marker 0 active).fru.counts[12] = 1 := by decide +kernel
/-- A station that withdrew in the middle of a marker. -/
def cutOff : State := after (.withdraw []) (asking (after (.markerReceived (markerBytes.take 9) 0 .begins) (station .listening .none)))

/-- R5, R13: a marker in two parts is in progress after the first and taken with the second; after WITHDRAW in between it
is abandoned. -/
theorem test_reception_in_parts :
    (after (.markerReceived (markerBytes.take 9) 0 .begins) active).lif.rx = some (markerBytes.take 9) ∧
    cutOff.lif.rx = none ∧ after (.markerReceived (markerBytes.drop 9) 0 .ends) cutOff = cutOff := by decide +kernel
/-- R83: a station at address 7, not in the marker's map, is displaced: JOINING from ACTIVE with the marker's digest. -/
theorem test_displaced : (handleMarker marker 0 (atSeven agreeing)).sync.state = .joining ∧
    (handleMarker marker 0 (atSeven active)).sync.state = .learning := by decide +kernel
/-- R87: the holder at 5 yields to the marker of the holder at 1. -/
theorem test_holder_yields : (handleMarker marker 400 { holder with ptu := agreeing.ptu }).sync.holder = false ∧
    (handleMarker marker 400 { holder with ptu := agreeing.ptu }).sync.holderAddr = some 1 := by decide +kernel
/-- R88: the first lost marker gives FLYWHEEL, that of the next cycle suspends; address 5's takeover delay is 6 times
300. A marker slot has one result. -/
theorem test_marker_slot_end : (after .markerSlotEnd active).sync.cond = .flywheel ∧
    after .markerSlotEnd (after .markerSlotEnd active) = after .markerSlotEnd active ∧
    (after .markerSlotEnd (after .cycleStart (after .markerSlotEnd active))).sync.takeoverTimer = .running 1800 := by
  decide +kernel
/-- R44: the roll word's digest 1234h agrees with one own digest and not with the other. -/
theorem test_roll_word_received : (after (.rollWordReceived 2 rollWordBytes) active).rcm.tally = 1 ∧
    (after (.rollWordReceived 2 rollWordBytes) agreeing).rcm.tally = 0 := by decide +kernel
/-- R137: an ack for sequence 9 delivers the waiting frame. -/
theorem test_roll_word_ack :
    (after (.rollWordReceived 2 rollWordAckBytes)
      { active with dlt := { Dlt.reset with retry := [waiting 1 none false] } }).dlt.done.map DoneRec.status =
      [.delivered] := by decide +kernel
/-- R5: a roll slot has one reception in a cycle; the next cycle has its own. -/
theorem test_second_reception :
    (after (.rollSlotDamaged 2) (after (.rollWordReceived 2 rollWordBytes) active)).fru = active.fru ∧
    (after (.rollSlotDamaged 2) (after .cycleStart (after (.rollWordReceived 2 rollWordBytes) active))).fru.counts[2] =
      1 := by decide +kernel

/-- What the line shows of a frame, with this delimiter, behind one idle bit time. -/
def shown (delimiter : Byte) (frame : List Byte) : List LineBit :=
  .idle :: (lineBits ([0xAA#8, delimiter] ++ frame)).map .bit

/-- R5: a roll word on the line, then idle; the same with another delimiter; with a transition behind it; cut by the slot's
end; and none. -/
theorem test_receive : receive (shown 0xB3#8 rollWordBytes ++ [.violation, .idle, .idle, .idle, .bit true]) =
      .bytes rollWordBytes ∧
    receive (shown 0xB2#8 rollWordBytes ++ [.idle]) = .damaged ∧
    receive (shown 0xB3#8 rollWordBytes ++ [.idle, .bit true, .idle, .idle]) = .damaged ∧
    receive ((shown 0xB3#8 rollWordBytes).take 80) = .damaged ∧ receive [.idle, .idle] = .nothing := by
  refine ⟨?_, ?_, ?_, ?_, ?_⟩ <;> decide +kernel
/-- The line that shows these bit times from `start` on and is idle else. -/
def placed (start : Int) (l : List LineBit) : Line :=
  fun t => if t < start then .idle else l.getD (t - start).toNat .idle
/-- R7, R8: an intact roll word in data phase 4, from bit time 12600 on, is a damaged phase; in roll slot 2, from bit time
1200 on, it is the roll word of that slot. -/
theorem test_slot_commands :
    slotCommands (.phase 4) (placed 12608 (shown 0xB3#8 rollWordBytes)) active = [.dataPhaseDamaged 4] ∧
    slotCommands (.roll 2) (placed 1207 (shown 0xB3#8 rollWordBytes)) active = [.rollWordReceived 2 rollWordBytes] := by
  constructor <;> decide +kernel
/-- R5, R10: a marker whose delimiter begins with the marker slot is that slot's, 16 bit times early; begun a bit time
earlier it is activity of the slot and no marker of it. -/
theorem test_marker_at_the_edge :
    slotCommands .marker (placed (-9) (shown 0xB3#8 markerBytes)) active =
      [.markerReceived markerBytes (-16), .markerSlotEnd] ∧
    slotCommands .marker (placed (-10) (shown 0xB3#8 markerBytes)) active = [.markerSlotEnd] := by
  constructor <;> decide +kernel
/-- R5: a roll word that begins at the end of roll slot 2 is cut there, and is activity of roll slot 3, whose own roll
word behind it is disregarded. -/
theorem test_carried_over :
    let line := placed 1450 (shown 0xB3#8 rollWordBytes ++ List.replicate 20 .idle ++ shown 0xB3#8 rollWordBytes)
    slotCommands (.roll 2) line active = [.rollSlotDamaged 2] ∧
      slotCommands (.roll 3) line active = [.rollSlotDamaged 3] := by
  constructor <;> decide +kernel
/-- R10, R11: another station's marker in the own data phase 3, from bit time 12000 on, which the station drove. -/
theorem test_marker_in_the_own_phase :
    slotCommands (.phase 3) (placed 12007 (shown 0xB3#8 markerBytes))
        { active with lif := { active.lif with tx := some { frame := .data 3 none, bytes := frameToUs } } } =
      [.ownDataReadBack (.bytes markerBytes), .markerReceived markerBytes 12000 .whole true] := by decide +kernel
/-- R9: the context of ROLL_CHECK is the slot. -/
theorem test_roll_slot_damaged : (after (.rollSlotDamaged 31) active).fru.first.map FirstFault.ctx =
    some (.sender 31) := by decide +kernel
/-- R123, R124: a first frame of a FRESH source is accepted without SEQUENCE_GAP, and its ack is given. -/
theorem test_data_frame_received : (after (.dataFrameReceived 4 frameToUs) active).rxe.acks = [(2, 9#8)] ∧
    (after (.dataFrameReceived 4 frameToUs) active).fru = active.fru := by decide +kernel
/-- R120: phase 3 is not station 2's. -/
theorem test_foreign_frame : (after (.dataFrameReceived 3 frameToAll) active).fru.counts[5] = 1 ∧
    (after (.dataFrameReceived 3 frameToSeven) active).fru = active.fru := by decide +kernel
/-- R117. -/
theorem test_data_phase_damaged : (after (.dataPhaseDamaged 95) active).fru.first.map FirstFault.ctx =
    some (.phase 95) := by decide +kernel

/-- The station with this transmission on record. -/
def sending (f : SentFrame) (s : State) : State := { s with lif := { s.lif with tx := some { frame := f, bytes := [1#8] } } }

/-- R86: the second failed read-back makes the holder yield. -/
theorem test_own_marker_read_back : (after (.ownMarkerReadBack .damaged) (sending .marker holder)).sync.holder = true ∧
    (after (.ownMarkerReadBack .nothing)
      (sending .marker { holder with sync := { holder.sync with lost := 1 } })).sync.holder = false := by decide +kernel
/-- R39: the first failed read-back of a normal roll word counts, the second withdraws the station. -/
theorem test_own_roll_read_back :
    (after (.ownRollReadBack .damaged) (sending (.roll (rollWord 0#16)) active)).rcm.ownCollisions = 1 ∧
    (after (.ownRollReadBack .damaged) (sending (.roll (rollWord 0#16))
      { active with rcm := { active.rcm with ownCollisions := 1 } })).sync.state = .withdrawn := by decide +kernel
/-- R112: the third cycle in a row with a collision is SCHEDULE_CONFLICT. -/
theorem test_own_data_read_back :
    (after (.ownDataReadBack .damaged) (sending (.data 3 none) active)).txe.mark = .failed ∧
    (after (.ownDataReadBack .damaged) (sending (.data 3 none)
      { active with txe := { active.txe with conflict := 2 } })).sync.state = .relearn := by decide +kernel
/-- R88: cycle 65535 is followed by cycle 0. -/
theorem test_cycle_start : (after .cycleStart
    { active with sync := { active.sync with cycleNumber := some 0xFFFF#16 } }).sync.cycleNumber = some 0#16 := by
  decide +kernel
/-- R134: with a retry timeout of 4 an entry of age 3 becomes DUE. -/
theorem test_cycle_start_ages : (after .cycleStart
    { active with dlt := { Dlt.reset with retry := [waiting 3 none false] } }).dlt.retry.map RetryEntry.due =
      [some 0#8] := by decide +kernel
/-- R59: a claim for 2 phases lists the lowest VACANT ones, 0 and 1. -/
theorem test_own_roll_slot : (after .ownRollSlot { active with cru := { Cru.reset with
    claim := some { kind := .count, requested := 2, granted := [], attempts := 0 } } }).lif.tx.map
      (fun x => x.bytes.drop 5 |>.take 4) = some [0x20#8, 0#8, 0#8, 1#8] := by decide +kernel
/-- R94. -/
theorem test_leave_slot_end :
    (after .leaveSlotEnd { active with sync := { active.sync with leaveSent := true } }).sync.state = .withdrawn := by
  decide +kernel
/-- R71, R72: a claimed VACANT phase is owned and COOLING(1) becomes VACANT. -/
theorem test_roll_call_close :
    (after .rollCallClose { active with rcm := { active.rcm with
      record := active.rcm.record.set 2 (some { rollWord 0#16 with claims := [0#8] }) } }).ptu.table[0] = .owned 2 ∧
    (after .rollCallClose active).ptu.table[8] = .vacant := by decide +kernel
/-- R49: an absence limit of 1 more than the count times a peer out; its entries cool (R51). -/
theorem test_close_timeout : (after .rollCallClose { active with rcm := { active.rcm with
    presence := active.rcm.presence.set 2 (some 2) } }).ptu.table[4] = .cooling2 := by decide +kernel
/-- R106, R108: a class 0 frame to station 2 is sent in the own phase and waits for its ack. -/
theorem test_data_phase :
    (after (.dataPhase 3) { active with txe := { active.txe with q0 := [queued (.unicast 2)] } }).dlt.retry.length = 1 ∧
    (after (.dataPhase 4) { active with txe := { active.txe with q0 := [queued (.unicast 2)] } }).dlt.retry.length =
      0 := by decide +kernel

/-- The LISTENING station with its listen timer running. -/
def listening : State :=
  let s := station .listening .none
  { s with sync := { s.sync with listenTimer := .running 203400 } }

/-- R92: address 5 waits 6 units of 300 bit times. -/
theorem test_listen_timer : (after .listenTimerExpiry listening).sync.takeoverTimer = .running 1800 := by decide +kernel
/-- R92: the founder is ACTIVE, holder, alone present, and owns nothing. -/
theorem test_takeover_timer : (after .takeoverTimerExpiry
    { listening with sync := { listening.sync with takeoverTimer := .running 0 } }).sync.state = .active ∧
    (after .takeoverTimerExpiry
      { listening with sync := { listening.sync with takeoverTimer := .running 0 } }).ptu.table[0] = .vacant := by
  decide +kernel
/-- R17. -/
theorem test_line_fault_timer : (after .lineFaultTimerExpiry
    { active with lif := { active.lif with lineFaultTimer := .running 0 } }).sync.state = .withdrawn := by decide +kernel

/-- R157: the line fault at the instant of another withdrawal is recorded in WITHDRAWN; a later one does not arise. -/
theorem test_line_fault_at_withdrawal :
    (let s := fatal .addressInUse (.sender 5) { active with lif := { active.lif with lineFaultTimer := .running 0 } };
      (after (.lineFaultTimerExpiry true) s).fru.counts[18] = 1 ∧ after .lineFaultTimerExpiry s = s) := by decide +kernel

/-! ## Witnesses: a state and operands for the hypotheses of every statement, clause by clause -/

/-- A station in START whose reset still lasts. -/
def held : State := State.reset

/-- A station whose blocks stand at their reset values, but for those that START writes, is sound in START. -/
theorem sound_until_started (s : State)
    (h : s = { State.reset with fru := s.fru, cfg := s.cfg, hp := s.hp, pending := s.pending }) : StartSound s := by
  rw [h]
  exact fun _ => by and_intros <;> rfl

/-- A reply of this status to the request of this code, all bytes but the last shifted out, with one bit to come. -/
def replying (code : Byte) (st : Status) : State :=
  let s := clocked [code, 0#8] (List.replicate 7 false) [true]
  { s with hp := { s.hp with tx := .reply, reply := some { status := st, data := [], shifted := 1 } } }

theorem witness_StepRunsTheFrontCommand :
    (held.withPending [.cycleStart, .pinReset]).pending = .cycleStart :: [.pinReset] ∧
    (held.pending = [] ∧ held.hp.sdi = []) ∧
    ((clocked [] [] [true]).hp.sdi = true :: [] ∧ (clocked [] (List.replicate 6 false) [true]).hp.bits.length < 7) ∧
    (let s := clocked [0x01#8] (List.replicate 7 false) [false];
      s.pending = [] ∧ s.hp.sdi = false :: [] ∧ s.hp.bits.length = 7 ∧ s.hp.tx = .request ∧
      (∀ i : Fin 8, (s.hp.bits ++ [false])[i.val]? = some ((0#8 : Byte).getLsbD (7 - i.val))) ∧
      requestOf [0x01#8] = none ∧ requestOf ([0x01#8] ++ [0#8]) = some (.status [])) ∧
    ((replying 0x03#8 .ok).hp.reply = some { status := .ok, data := [], shifted := 1 } ∧
      (replying 0x03#8 .ok).hp.request.head? = some 0x03#8 ∧ (replying 0x04#8 .ok).hp.request.head? = some 0x04#8 ∧
      (replying 0x11#8 .ok).hp.request.head? ≠ some 0x03#8 ∧ (replying 0x11#8 .ok).hp.request.head? ≠ some 0x04#8 ∧
      (replying 0x03#8 .empty).hp.tx = .reply ∧ (replying 0x03#8 .empty).hp.bits.length = 7) ∧
    (after (.status []) (asking active)).hp.reply.map (fun r => decide (r.shifted < 1 + r.data.length)) = some true := by
  refine ⟨?_, ?_, ?_, ?_, ?_, ?_⟩ <;> decide +kernel
theorem witness_ResetsLeaveTheResetValues :
    let s := { active with hp := { active.hp with csLow := true, softReset := true } }
    s.hp.csLow = true ∧ s.hp.softReset = true ∧ (asking active).hp.tx = .request ∧
      (asking active).sync.state ≠ .start := by decide +kernel
theorem witness_StartTakesTheDefaultsOrBeginsToRead :
    (held.cfg.step = .held ∧ (⟨9, true, false⟩ : Straps).cfgSrc = false) ∧
    (active.cfg.step ≠ .held ∧ active.cfg.step ≠ .sampling) ∧
    (StartSound held ∧ held.cfg.step = .held ∧ (⟨9, true, true⟩ : Straps).cfgSrc = true ∧ 9 ≤ 9 ∧ 9 < 10) ∧
    (StartSound (after (.sclHoldTimeout 0) reading) ∧ (after (.sclHoldTimeout 0) reading).cfg.step = .waiting) ∧
    held.cfg.step ≠ .waiting := by
  refine ⟨by decide, by decide, ⟨?_, by decide⟩, ⟨?_, by decide +kernel⟩, by decide⟩
  · exact sound_until_started _ rfl
  · exact sound_until_started _ (by decide +kernel)
theorem witness_ReadAttemptEndsInAConfigurationOrAFailure :
    StartSound reading ∧ reading.cfg.step = .reading ∧
    (⟨true, true, true, recordOf Configuration.defaults⟩ : ReadAttempt).ackRead = true ∧
    validateRecord (recordOf Configuration.defaults) = .ok Configuration.defaults ∧
    validateRecord (recordOf { Configuration.defaults with autoJoin := true }) =
      .ok { Configuration.defaults with autoJoin := true } ∧
    validateRecord (Vector.replicate 24 0#8) = .error .signature ∧
    ¬(false = true ∧ true = true ∧ true = true) ∧ held.cfg.step ≠ .reading := by
  refine ⟨sound_until_started _ (by decide +kernel), by decide +kernel, rfl, ?_, ?_, ?_, by decide, by decide⟩ <;> rfl
theorem witness_ConfigurationRecordRoundTrip : (ConfigurationSound Configuration.defaults ∧
    ConfigurationSound { Configuration.defaults with absenceLimit := 7, retryTimeout := 15, retryLimit := 7, quota := 96 }) ∧
    (let v := recordOf Configuration.defaults;
      v[0] = 0xC7#8 ∧ v[1] = 0x2E#8 ∧ v[2] = 0x01#8 ∧ (v.toList.map BitVec.toNat).sum % 256 = 0 ∧
      ¬((v.set 1 0x2F#8)[0] = 0xC7#8 ∧ (v.set 1 0x2F#8)[1] = 0x2E#8) ∧ (v.set 2 0x02#8)[2] ≠ 0x01#8 ∧
      ((v.set 23 0xDB#8).toList.map BitVec.toNat).sum % 256 ≠ 0) ∧
    RecordInRange (recordOf Configuration.defaults) ∧ ¬RecordInRange ((recordOf Configuration.defaults).set 6 97#8) :=
  ⟨⟨by constructor <;> decide, by constructor <;> decide⟩, by decide +kernel, by constructor <;> decide +kernel,
    fun h => absurd h.quota (by decide +kernel)⟩

/-- The ACTIVE station with MARKER_LOST masked and FRAME_CHECK at its highest count. -/
def masking : State :=
  { active with fru := { active.fru with
      mask := 0x0002#15, seen := active.fru.seen.set 4 true, counts := active.fru.counts.set 4 255
      highest := .advisory
      first := some { kind := .frameCheck, cycle := none, state := .active, ctx := .phase 0 } } }

theorem witness_ARecordingCountsAndKeepsTheFirst : FaultsSound masking.fru ∧
    masked masking.fru.mask .markerLost = true ∧ masked masking.fru.mask .frameCheck = false ∧
    FaultKind.severity .lineFault = .fatal ∧ (1 : Fin 19) ≠ FaultKind.code .frameCheck :=
  ⟨by constructor <;> decide +kernel, by decide +kernel⟩
theorem witness_TransactionsBeginAndEnd :
    (active.hp.csLow = false ∧ active.cfg.step ≠ .held) ∧ (held.hp.csLow = false ∧ held.cfg.step = .held) ∧
    ((asking active).hp.csLow = true ∧ (asking active).hp.softReset = false) ∧
    (active.hp.tx = .idle ∧ (asking active).hp.tx = .request ∧ (asking active).cfg.step ≠ .held) ∧
    (let s := after (.status []) (asking active);
      s.hp.csLow = true ∧ s.cfg.step ≠ .held ∧ s.hp.tx = .reply ∧ s.sdoByte = some 0#8 ∧ s.hp.bits.length = 0 ∧
      s.hp.reply.map (fun r => (r.shifted, decide (0 < r.data.length))) = some (0, true)) ∧
    active.sdoByte = none := by decide +kernel
theorem witness_RequestsAreCheckedInOrder :
    ((Instr.popRx []).requestCode = some 0x03#8 ∧ (0x03#8 : Byte) ≠ 0x01#8 ∧ (asking held).hp.tx = .request ∧
      (asking held).sync.state = .start) ∧
    ((Instr.claim []).requestCode = some 0x05#8 ∧ (asking active).sync.state ≠ .start ∧
      ¬requestLengthRight (.claim [])) ∧
    ((Instr.status [0#8]).requestCode = some 0x01#8 ∧ ¬requestLengthRight (.status [0#8])) ∧
    ¬((0x01#8 : Byte) ≤ 0x15#8 ∧ (0x15#8 : Byte) ≤ 0x14#8) ∧ ((0x01#8 : Byte) ≤ 0x14#8 ∧ (0x14#8 : Byte) ≤ 0x14#8) ∧
    active.hp.tx ≠ .request ∧ (requestArgs (.claim [4#8])).length ≤ 255 ∧ ([0x05#8] : List Byte).length < 2 := by
  refine ⟨by decide, ⟨rfl, by decide +kernel, by simp [requestLengthRight]⟩, ⟨rfl, by simp [requestLengthRight]⟩,
    by decide, by decide, by decide, by decide, by decide⟩
/-- For every statement about a request in a state after START: the port in REQUEST, the state not START. -/
theorem witness_requests : (asking active).hp.tx = .request ∧ (asking active).sync.state ≠ .start ∧
    (asking held).hp.tx = .request := by decide +kernel

/-- The ACTIVE station with an arrival, a departure, a COUNT claim and outcomes on record. -/
def busy : State :=
  { active with
    rcm := { active.rcm with
      lastArrival := some { addr := 2, cycle := 6#16 }
      lastDeparture := some { addr := 9, reason := .timeout, cycle := 5#16 } }
    cru := { Cru.reset with
      claim := some { kind := .count, requested := 8, granted := [0], attempts := 1 }
      lastClaim := some (.partly, [3]), releases := [3] } }

theorem witness_StatusReplyLayout :
    ((asking busy).hp.tx = .request ∧ busy.rcm.lastArrival = some { addr := 2, cycle := 6#16 } ∧
      busy.rcm.lastDeparture = some { addr := 9, reason := .timeout, cycle := 5#16 } ∧
      busy.cru.claim.map Claim.kind = some .count ∧ busy.cru.lastClaim = some (.partly, [3])) ∧
    ((asking active).rcm.lastArrival = none ∧ active.rcm.lastDeparture = none ∧ active.cru.claim = none ∧
      active.cru.lastClaim = none) ∧
    (after (.claimAt [95#8]) (asking active)).cru.claim.map Claim.kind = some (.at 95) := by decide +kernel
theorem witness_ReadingRequests : (7#8 : Byte).toNat < 8 ∧ 8 ≤ (8#8 : Byte).toNat ∧ active.fru.first = none ∧
    masking.fru.first = some { kind := .frameCheck, cycle := none, state := .active, ctx := .phase 0 } := by
  decide +kernel
theorem witness_EventRequests : (1#8 : Byte) ≤ 1#8 ∧ (1#8 : Byte) < 2#8 := by decide
theorem witness_PushQueuesAFrame :
    ([9#8, 9#8, 9#8, 9#8] : List Byte).length = (4#8 : Byte).toNat ∧
    ((4#8 : Byte) ≤ 4#8 ∧ ((32#8 : Byte) ≤ 62#8 ∧ (62#8 : Byte) ≠ 63#8) ∧ (5#8 : Byte) = finByte active.own ∧
      (60#8 : Byte) < 61#8 ∧ (58#8 : Byte).toNat % 4 ≠ 0) ∧
    (clsOf 3#8 = some .c3 ∧ destOf 31#8 = some (.unicast 31) ∧ destOf 63#8 = some .broadcast ∧
      (31#8 : Byte) ≠ finByte active.own ∧ (60#8 : Byte) ≤ 60#8 ∧ (60#8 : Byte).toNat % 4 = 0) ∧
    { active.txe with free := 0 }.free = 0 ∧ active.txe.free ≠ 0 := by decide +kernel
theorem witness_PopsAnswerThenCommit :
    active.rxe.queue = [] ∧ active.dlt.done = [] ∧ withItems.rxe.queue.length = 1 ∧ withItems.dlt.done.length = 1 ∧
    (let s := after (.popRx []) (asking withItems);
      s.hp.tx = .reply ∧ s.hp.request.head? = some 0x03#8 ∧ s.hp.reply.isSome = true) ∧
    (let s := after (.popDone []) (asking withItems);
      s.hp.tx = .reply ∧ s.hp.request.head? = some 0x04#8 ∧ s.hp.reply.isSome = true) ∧
    (let s := after (.popDone []) (asking active);
      s.hp.tx = .reply ∧ s.hp.request.head? = some 0x04#8 ∧ s.hp.reply.isSome = true ∧ s.dlt.done = []) ∧
    active.hp.tx ≠ .reply := by decide +kernel
theorem witness_ClaimAndReleaseAll : (asking active).sync.state = .active ∧
    (asking (station .joining .running)).sync.state ≠ .active := by decide +kernel
theorem witness_ClaimAtIsCheckedInOrder : (asking held).sync.state = .start ∧ (asking active).sync.state = .active ∧
    (asking listening).sync.state ≠ .start ∧ (asking listening).sync.state ≠ .active ∧ 96 ≤ (96#8 : Byte).toNat := by
  decide +kernel
theorem witness_ReleaseIsCheckedInOrder :
    (asking active).ptu.table[4] ≠ .owned active.own ∧
    (active.ptu.table[3] = .owned active.own ∧ (3 : Phase) ∈ busy.cru.releases ∧ (3 : Phase) ∉ active.cru.releases ∧
      active.cru.releases.length < 8 ∧ active.cru.releases.Pairwise (· < ·)) ∧
    ((3 : Phase) ∉ ([10, 11, 12, 13, 14, 15, 16, 17] : List Phase) ∧
      8 ≤ ([10, 11, 12, 13, 14, 15, 16, 17] : List Phase).length) := by decide +kernel
theorem witness_PatternRequests : (List.replicate 16 (3#8 : Byte)).length = 16 ∧
    (∃ b ∈ (4#8 :: List.replicate 15 3#8 : List Byte), 3#8 < b) ∧ (∀ b ∈ (List.replicate 16 3#8 : List Byte), b ≤ 3#8) ∧
    (after (.applyPattern []) (asking active)).txe.applyPending = true ∧ active.txe.applyPending = false := by
  decide +kernel
theorem witness_JoinAndWithdraw : (asking (station .offline .none)).sync.state = .offline ∧
    (asking (station .withdrawn .none)).sync.state = .withdrawn ∧ (asking active).sync.state.onLine = true ∧
    (asking active).sync.state = .active ∧ (asking (station .joining .running)).sync.state = .joining ∧
    (asking listening).sync.state = .listening := by decide +kernel

/-- Station 1 instead of station 5, so that the marker names its own address. -/
def ownMarkerHeard : State := { active with cfg := { active.cfg with straps := { addr := 1, rate := false, cfgSrc := false } } }

/-- Station 0 as holder, which the marker of holder 1 does not move. -/
def lowHolder : State := { holder with cfg := { holder.cfg with straps := { addr := 0, rate := false, cfgSrc := false } } }

theorem witness_MarkersDisregardedOrFatal :
    parseMarker [0x3C#8] = none ∧ parseMarker markerBytes = some marker ∧
    (station .offline .none).sync.state.onLine = false ∧
    (marker.holder ≠ active.own ∧ active.sync.state.timed = true ∧ active.sync.holder = false ∧
      active.sync.cond = .running ∧ (-17 : Int) < -16 ∧ (16 : Int) < 17) ∧
    (lowHolder.own < marker.holder ∧ lowHolder.sync.state = .active ∧ lowHolder.sync.holder = true) ∧
    (marker.holder = ownMarkerHeard.own ∧ ownMarkerHeard.sync.state.onLine = true) := by
  exact ⟨by decide, test_marker_parses, by decide +kernel⟩
/-- A JOINING station that holds stations 9 and 30 present. -/
def peopled : State :=
  let s := station .joining .running
  { s with rcm := { s.rcm with presence := tab fun a => if a = 9 ∨ a = 30 then some 0 else none } }

theorem witness_MarkersInTheWindow : parseMarker markerBytes = some marker ∧
    (marker.holder ≠ agreeing.own ∧ agreeing.sync.state = .active ∧ agreeing.sync.holder = false ∧
      agreeing.sync.cond = .running ∧ agreeing.sync.markerDone = false ∧ (-16 : Int) ≤ -16 ∧ (16 : Int) ≤ 16 ∧
      agreeing.ptu.digest = some marker.digest ∧
      (∀ a : Addr, marker.presence[a].isSome = agreeing.rcm.presence[a].isSome) ∧
      agreeing.rcm.presence[agreeing.own].isSome = true ∧
      ∀ a : Addr, agreeing.rcm.degraded[a] = true → agreeing.rcm.presence[a].isSome = true) ∧
    (let s := station .joining .running;
      marker.holder ≠ s.own ∧ s.sync.state = .joining ∧ s.sync.holder = false ∧ s.sync.cond = .running ∧
        s.sync.markerDone = false) ∧
    (agreeing.ptu.digest = some marker.digest ∧ marker.presence[agreeing.own].isSome = true ∧
      (station .learning .running).ptu.known[7] = false ∧ (station .relearn .flywheel).ptu.known[0] = false ∧
      (station .learning .running).sync.markerDone = false ∧ (station .relearn .flywheel).sync.cond = .flywheel) ∧
    (RetryListSound [waiting 0 none false] ∧ highest (addedBy marker (station .joining .running)) 2 ∧
      highest (droppedBy marker peopled) 30 ∧ (∀ a : Addr, addedBy marker agreeing a = false) ∧
      ∀ a : Addr, droppedBy marker agreeing a = false) := by
  exact ⟨test_marker_parses, by decide +kernel, by decide +kernel, by decide +kernel,
    by constructor <;> decide, by constructor <;> decide +kernel, by constructor <;> decide +kernel, by decide +kernel⟩

/-- A learning station, every segment known, with this digest and this many failed attempts. -/
def learnt (st : SyncState) (d : Half) (n : Nat) : State :=
  let s := knowing threeEntries (station st .running)
  { s with ptu := { s.ptu with digest := some d, learnAttempts := n } }

/-- A RELEARN station at address 7, all segments known, with a withdraw pending. -/
def leavingLearner (d : Half) (n : Nat) : State :=
  let s := atSeven (learnt .relearn d n)
  { s with sync := { s.sync with withdrawPending := true } }
/-- R30, R81, R83: an address that the map lacks: the third failed comparison comes before the displacement. -/
theorem test_third_failure_of_a_displaced :
    (handleMarker marker 0 (leavingLearner 0x5555#16 2)).fru.counts[17] = 1 ∧
    (handleMarker marker 0 (leavingLearner 0x5555#16 2)).fru.counts[14] = 0 ∧
    (handleMarker marker 0 (leavingLearner 0x5555#16 1)).fru.counts[14] = 1 ∧
    (handleMarker marker 0 (leavingLearner 0x5555#16 1)).sync.state = .withdrawn := by decide +kernel

theorem witness_TheDigestDecides : parseMarker markerBytes = some marker ∧
    (active.ptu.digest.getD 0xFFFF#16 ≠ marker.digest ∧ marker.presence[active.own].isSome = true) ∧
    (∀ st, st = .learning ∨ st = .relearn → ∀ g : Fin 8, (learnt st 0x1234#16 0).ptu.known[g] = true) ∧
    ((learnt .learning 0x1234#16 0).ptu.digest = some marker.digest ∧
      (learnt .relearn 0x1234#16 0).ptu.digest = some marker.digest) ∧
    ((learnt .learning 0x5555#16 1).ptu.digest ≠ some marker.digest ∧
      (learnt .learning 0x5555#16 1).ptu.learnAttempts < 2) ∧
    (learnt .relearn 0x5555#16 2).ptu.learnAttempts = 2 ∧
    (∀ i : Fin 12, (segmentEntry marker.segment[i]).isSome = true) ∧
    (segmentEntry (marker.segment.set 11 0xFF#8)[11] = none ∧ (station .learning .running).ptu.known[7] = false) ∧
    (marker.presence[(atSeven active).own] = none ∧ marker.holder ≠ (atSeven active).own ∧
      (atSeven active).sync.withdrawPending = false ∧ (atSeven agreeing).ptu.digest.getD 0xFFFF#16 = marker.digest ∧
      (atSeven active).ptu.digest.getD 0xFFFF#16 ≠ marker.digest ∧ active.fru.first = none ∧
      masked active.fru.mask .diverged = false ∧ (station .relearn .flywheel).ptu.known[0] = false ∧
      (station .relearn .flywheel).sync.cond = .flywheel) ∧
    (let s := leavingLearner 0x5555#16 2;
      s.sync.withdrawPending = true ∧ s.sync.state = .relearn ∧ s.ptu.learnAttempts = 2 ∧
      (∀ g : Fin 8, s.ptu.known[g] = true) ∧ s.ptu.digest ≠ some marker.digest ∧ marker.presence[s.own] = none ∧
      marker.holder ≠ s.own) ∧
    (leavingLearner 0x5555#16 1).ptu.learnAttempts < 2 ∧ (leavingLearner 0x1234#16 2).ptu.digest = some marker.digest := by
  refine ⟨test_marker_parses, by decide +kernel, ?_, by decide +kernel⟩
  rintro st (rfl | rfl) <;> decide +kernel
theorem witness_FirstMarkerStartsLearning : parseMarker markerBytes = some marker ∧ marker.holder ≠ listening.own ∧
    listening.sync.state = .listening ∧
    (let s := station .learning .suspended;
      s.sync.state = .learning ∧ s.sync.cond = .suspended ∧ s.sync.holder = false ∧ s.ptu = s.ptu.forget) ∧
    ((station .joining .suspended).sync.state = .joining ∧ (station .joining .suspended).sync.cond = .suspended) ∧
    (marker.presence[holder.own].isSome = true ∧ holder.sync.holder = true ∧ marker.holder < holder.own ∧
      marker.holder ≠ holder.own ∧ (station .active .suspended).sync.cond = .suspended) ∧
    (agreeing.ptu.digest.getD 0xFFFF#16 = marker.digest ∧ active.ptu.digest.getD 0xFFFF#16 ≠ marker.digest ∧
      active.dlt.retry = []) :=
  ⟨test_marker_parses, by decide +kernel⟩

/-- A station in this state that has lost one marker. -/
def lostOne (st : SyncState) : State :=
  let s := station st .flywheel
  { s with sync := { s.sync with lost := 1 } }

theorem witness_LostMarkersFlywheelThenSuspend :
    (active.slotTiming = true ∧ active.sync.holder = false ∧ active.sync.markerDone = false ∧ active.sync.lost = 0) ∧
    ((lostOne .active).slotTiming = true ∧ (lostOne .active).sync.state = .active ∧ (lostOne .active).sync.lost = 1) ∧
    ((lostOne .learning).slotTiming = true ∧ (lostOne .learning).sync.state ≠ .active ∧
      (lostOne .learning).sync.holder = false ∧ (lostOne .learning).sync.markerDone = false ∧
      (lostOne .learning).sync.lost = 1) ∧
    holder.sync.holder = true ∧ listening.slotTiming = false := by decide +kernel
theorem witness_OwnMarkerReadBack :
    (sending .marker holder).lif.tx = some { frame := .marker, bytes := [1#8] } ∧ Reception.damaged ≠ .bytes [1#8] ∧
    holder.sync.lost = 0 ∧ holder.sync.state = .active ∧ holder.sync.holder = true ∧
    { holder.sync with lost := 1 }.lost = 1 := by decide +kernel
theorem witness_ReceptionsComeInParts :
    active.sync.state.onLine = true ∧ held.sync.state.onLine = false ∧ active.lif.rx = none ∧
    (active.lif.rollDone[31] = false ∧ active.lif.phaseDone[95] = false ∧ active.slotTiming = true ∧
      (rollHad 31 active).lif.rollDone[31] = true ∧ (rollHad 31 active).slotTiming = true ∧
      (phaseHad 95 active).lif.phaseDone[95] = true ∧ (phaseHad 95 active).slotTiming = true) ∧
    (after (.rollWordReceived 2 [0x5A#8] .begins) active).lif.rx = some [0x5A#8] ∧
    (active.sync.state ≠ .withdrawn ∧ (station .withdrawn .none).sync.left = none) ∧
    (let s := after (.withdraw []) (asking listening);
      exec (.withdraw []) (asking listening) = .next s ∧ s.sync.state = .withdrawn) := by
  refine ⟨?_, ?_, ?_, ?_, ?_, ?_, rfl, ?_⟩ <;> decide +kernel
/-- The line with a driver on it, without a transition, from `p` on. -/
def driven (p : Int) : Line := fun t => if p ≤ t then .violation else .idle
theorem witness_ActivityFrom (a b p : Int) (h : a - 8 ≤ p) (hb : p < b) : ActivityFrom (driven p) a b p :=
  ⟨⟨h, hb⟩, by simp [driven], fun _ => ⟨by simp [driven], fun j hj _ => by simp [driven, hj]⟩,
    fun j _ hj => by simp [driven]; omega⟩
theorem witness_BitTimesComeToCommands :
    (listening.slotTiming = false ∧ listening.sync.state.onLine = true ∧ held.slotTiming = false ∧
      held.sync.state.onLine = false ∧ active.slotTiming = true ∧ active.lif.tx = none ∧
      (sending .marker holder).lif.tx = some { frame := .marker, bytes := [1#8] } ∧
      (sending .marker holder).slotTiming = true ∧ (SentFrame.marker).slot holder.own ≠ Slot.phase 3 ∧
      (sending (.roll (rollWord 0#16)) active).lif.tx = some { frame := .roll (rollWord 0#16), bytes := [1#8] } ∧
      (sending (.data 3 none) active).lif.tx = some { frame := .data 3 none, bytes := [1#8] } ∧
      (SentFrame.data 3 none).slot active.own = Slot.phase 3 ∧ markerBytes ≠ [1#8] ∧
      [LineBit.violation, .idle, .idle, .idle, .bit true].take 4 =
        List.replicate 1 .violation ++ List.replicate 3 .idle) ∧
    ((∀ j : Int, 0 - 9 ≤ j → j ≤ 0 → driven (-9) j ≠ .idle) ∧ ∀ j : Int, 0 ≤ j → j < 600 → driven 600 j = .idle) ∧
    (placed 12007 (shown 0xB3#8 markerBytes)).reception 12000 12600 = .bytes markerBytes ∧
    ∃ w, parseRollWord rollWordBytes = some w := by
  refine ⟨by decide +kernel, ⟨fun j h _ => ?_, fun j _ h => ?_⟩, by decide +kernel, rollWord 0x1234#16, by decide +kernel⟩
  · simp [driven]; omega
  · simp [driven]; omega
theorem witness_FaultsAtTheInstantOfAWithdrawal :
    (let s := withdrawNow { active with lif := { active.lif with lineFaultTimer := .running 0 } };
      s.sync.state = .withdrawn ∧ s.sync.left = some { state := .active, timing := true, markerMissing := true,
                                                       drove := none, faultTimer := true }) ∧
    ((31 : Addr) ≠ active.own ∧ parseRollWord [] = none ∧ parseDataFrame [] = none ∧
      parseRollWord rollWordBytes = some (rollWord 0x1234#16) ∧ parseDataFrame frameToUs = some (shortFrame 5#8) ∧
      parseMarker markerBytes = some marker) ∧
    ((withdrawNow (station .learning .suspended)).sync.left.map (fun l => (l.state, l.timing)) =
      some (.learning, false)) ∧
    (marker.holder = ownMarkerHeard.own ∧ ownMarkerHeard.sync.state.onLine = true ∧
      ownMarkerHeard.slotTiming = true ∧ (2 : Addr) ≠ ownMarkerHeard.own ∧
      { active.lif with lineFaultTimer := .running 0 }.lineFaultTimer = .running 0) := by
  refine ⟨?_, ⟨?_, ?_, ?_, ?_, ?_, test_marker_parses⟩, ?_⟩ <;> decide +kernel
theorem witness_RollSlotsRefused :
    (active.slotTiming = true ∧ (31 : Addr) ≠ active.own ∧ active.lif.rollDone[31] = false ∧ parseRollWord [] = none ∧
      (station .learning .running).lif.rollDone[5] = false) ∧ listening.slotTiming = false ∧
    ((station .learning .running).slotTiming = true ∧ (station .learning .running).sync.state = .learning) ∧
    (parseRollWord rollWordBytes = some (rollWord 0x1234#16) ∧ (rollWord 0x1234#16).sender ≠ finByte (3 : Addr) ∧
      (rollWord 0x1234#16).sender = finByte (2 : Addr) ∧ (rollWord 0x1234#16).join = false ∧
      (station .active .running).rcm.presence[2] = none) ∧
    parseRollWord (RollWord.bytes { rollWord 0#16 with join := true, leave := true }) =
      some { rollWord 0#16 with join := true, leave := true } ∧
    ({ rollWord 0#16 with join := true, leave := true } : RollWord).wellFormed 2 = false := by decide +kernel
theorem witness_RollWordAcceptedWithItsAcks :
    parseRollWord rollWordBytes = some (rollWord 0x1234#16) ∧ (rollWord 0x1234#16).wellFormed 2 = true ∧
    active.slotTiming = true ∧ (2 : Addr) ≠ active.own ∧ active.rcm.presence[2] ≠ none ∧
    active.lif.rollDone[2] = false ∧ parseRollWord rollWordAckBytes = some { rollWord 0x1234#16 with acks := [(finByte active.own, 9#8)] } ∧
    ({ rollWord 0x1234#16 with acks := [(finByte active.own, 9#8)] } : RollWord).wellFormed 2 = true ∧
    (let w : RollWord := { rollWord 0x1234#16 with acks := [(3#8, 1#8), (finByte active.own, 9#8), (7#8, 9#8)] };
      w.wellFormed 2 = true ∧ parseRollWord w.bytes = some w ∧
      w.acks.filter (fun p => p.1 = finByte active.own) = [(finByte active.own, 9#8)]) ∧
    (waiting 1 none false).frame.dest = .unicast 2 ∧ (waiting 1 none false).frame.seq = some 9#8 := by decide +kernel
theorem witness_OwnRollReadBack :
    (sending (.roll (rollWord 0#16)) active).lif.tx = some { frame := .roll (rollWord 0#16), bytes := [1#8] } ∧
    (rollWord 0#16).leave = false ∧ (rollWord 0#16).join = false ∧ Reception.nothing ≠ .bytes [1#8] ∧
    active.rcm.ownCollisions = 0 ∧ 1 ≤ { active.rcm with ownCollisions := 1 }.ownCollisions ∧
    active.sync.state.onLine = true := by decide +kernel
theorem witness_FramesRefused :
    (active.sync.state = .active ∧ active.slotTiming = true ∧ active.lif.tx = none ∧ active.lif.phaseDone[3] = false ∧
      (station .joining .running).sync.state ≠ .active ∧ (station .joining .running).slotTiming = true ∧
      (station .joining .running).lif.phaseDone[3] = false ∧
      (sending (.data 3 none) active).lif.tx = some { frame := .data 3 none, bytes := [1#8] } ∧
      parseDataFrame [] = none) ∧
    parseDataFrame frameToUs = some (shortFrame 5#8) ∧
    parseDataFrame (DataFrame.bytes { shortFrame 5#8 with source := 32#8 }) =
      some { shortFrame 5#8 with source := 32#8 } ∧
    parseDataFrame (DataFrame.bytes { shortFrame 5#8 with cls := 4#8 }) = some { shortFrame 5#8 with cls := 4#8 } ∧
    ((shortFrame 5#8).source = finByte (2 : Addr) ∧ (shortFrame 5#8).cls ≤ 3#8 ∧
      (shortFrame 5#8).dest = finByte active.own ∧ active.ptu.table[3] ≠ .owned 2) := by decide +kernel
theorem witness_FrameForAnotherStationIsDiscarded :
    active.sync.state = .active ∧ active.slotTiming = true ∧ active.lif.tx = none ∧ active.lif.phaseDone[95] = false ∧
    parseDataFrame frameToSeven = some (shortFrame 7#8) ∧ (shortFrame 7#8).source ≤ 31#8 ∧
    (shortFrame 7#8).cls ≤ 3#8 ∧ (shortFrame 7#8).dest ≠ finByte active.own ∧ (shortFrame 7#8).dest ≠ 63#8 := by
  decide +kernel

/-- The ACTIVE station with this last sequence accepted from station 2 and a full receive queue or an empty one. -/
def receiving (last : Option Byte) (full : Bool) : State :=
  { active with rxe := {
      queue := if full then List.replicate 32 { source := 2, dest := .broadcast, cls := .c1, seq := 0#8, payload := [],
                                                cycle := 7#16, phase := 4 } else []
      lastAcc := Rxe.reset.lastAcc.set 2 last
      acks := [] } }

theorem witness_FramesAccepted :
    parseDataFrame frameToUs = some (shortFrame 5#8) ∧ parseDataFrame frameToAll = some (shortFrame 63#8) ∧
    ((shortFrame 5#8).source = finByte (2 : Addr) ∧ (shortFrame 5#8).cls = Cls.byte .c1 ∧
      (shortFrame 5#8).dest = finByte active.own ∧ (2 : Addr) ≠ active.own ∧ active.ptu.table[4] = .owned 2 ∧
      active.sync.cycleNumber = some 7#16 ∧ (receiving none true).lif.phaseDone[4] = false) ∧
    (receiving (some 9#8) false).rxe.lastAcc[2] = some (shortFrame 5#8).seq ∧
    ((receiving (some 8#8) true).rxe.lastAcc[2] ≠ some (shortFrame 5#8).seq ∧
      32 ≤ (receiving (some 8#8) true).rxe.queue.length) ∧
    ((receiving none false).rxe.lastAcc[2] ≠ some (shortFrame 5#8).seq ∧
      (receiving none false).rxe.queue.length < 32) := by decide +kernel
theorem witness_OwnDataReadBack :
    (sending (.data 3 none) active).lif.tx = some { frame := .data 3 none, bytes := [1#8] } ∧
    Reception.damaged ≠ .bytes [1#8] ∧ active.txe.conflict < 2 ∧ { active.txe with mark := .failed }.mark = .failed ∧
    (2 ≤ { active.txe with conflict := 2 }.conflict ∧ active.txe.mark ≠ .failed ∧ active.sync.state = .active) ∧
    (sending (.data 3 (some .c0)) active).lif.tx = some { frame := .data 3 (some .c0), bytes := [1#8] } ∧
    { active.txe with q0 := [queued .broadcast] }.queue .c0 = queued .broadcast :: [] := by decide +kernel
theorem witness_CycleStartAdvancesOrSuspends :
    (active.slotTiming = true ∧ active.dlt.retry = [] ∧ active.sync.holderVacant = false ∧ active.sync.holder = false ∧
      active.sync.cycleNumber = some 7#16 ∧ active.txe.applyPending = false) ∧
    { active.txe with applyPending := true }.applyPending = true ∧ listening.slotTiming = false ∧
    { active.sync with holderVacant := true }.holderVacant = true ∧
    (holder.slotTiming = true ∧ holder.sync.holderVacant = false ∧ holder.sync.holder = true ∧
      holder.sync.cycleNumber = some 7#16) := by decide +kernel
theorem witness_AgingOfTheRetryList :
    (active.slotTiming = true ∧ active.sync.state = .active ∧ active.sync.holderVacant = false ∧
      active.cfg.config.retryTimeout = 4 ∧ active.cfg.config.retryLimit = 3) ∧
    ((waiting 2 none false).closed = false ∧ (waiting 2 none false).age + 1 < 4) ∧
    ((waiting 3 none false).due = none ∧ (waiting 3 none false).age + 1 = 4 ∧
      (waiting 3 none false).frame.attempts < 1 + 3) ∧
    (waiting 0 none true).closed = true ∧ 1 + 3 ≤ { (waiting 3 none false).frame with attempts := 4 }.attempts ∧
    (let l := [waiting 0 none true, waiting 3 none false, waiting 2 none false, waiting 0 (some 6#8) false];
      l.map (givenUp active.cfg.config) = [true, false, false, false] ∧
      l.map (fallsDue active.cfg.config) = [false, true, false, false] ∧
      agedList active.cfg.config 255#8 l =
        [waiting 4 (some 255#8) false, waiting 3 none false, waiting 0 (some 6#8) false]) ∧
    FaultsSound active.fru ∧ active.fru.first = none ∧ masked active.fru.mask .deliveryFailed = false := by
  refine ⟨?_, ?_, ?_, ?_, ?_, ?_, ⟨?_, ?_, ?_⟩, ?_⟩ <;> decide +kernel
theorem witness_OwnRollSlotSendsTheRollWord :
    ((station .joining .running).slotTiming = true ∧ (station .joining .running).sync.state = .joining) ∧
    ((station .relearn .flywheel).slotTiming = true ∧ (station .relearn .flywheel).sync.state = .relearn ∧
      (station .relearn .flywheel).sync.withdrawPending = false) ∧
    (station .learning .running).sync.state = .learning ∧ listening.slotTiming = false ∧
    (active.slotTiming = true ∧ active.sync.state = .active ∧ active.sync.withdrawPending = false ∧
      active.cru.claim = none ∧ busy.cru.claim.map Claim.kind = some .count) := by decide +kernel
/-- For every statement about the close, and its claims, releases and joiners. -/
theorem witness_close :
    active.slotTiming = true ∧ listening.slotTiming = false ∧
    busy.cru.claim = some { kind := .count, requested := 8, granted := [0], attempts := 1 } ∧
    (after (.claimAt [95#8]) (asking active)).cru.claim =
      some { kind := .at 95, requested := 1, granted := [], attempts := 0 } ∧
    (let s := (after .rollCallClose { active with cru := { Cru.reset with
        claim := some { kind := .at 95, requested := 1, granted := [], attempts := 4 } } });
      s.ptu.table[95] = .vacant ∧ s.cru.lastClaim = some (.refused, [])) ∧
    (let s : State := { station .joining .running with
        cru := { Cru.reset with carried := some { phases := [3], all := false } }
        rcm := { Rcm.reset with record := Rcm.reset.record.set 5 (some { rollWord 0#16 with join := true }) } };
      s.slotTiming = true ∧ s.sync.state = .joining ∧ s.cru.carried = some { phases := [3], all := false } ∧
        s.rcm.record[s.own].map RollWord.join = some true) ∧
    active.cru.carried = none ∧ active.sync.state ≠ .joining := by decide +kernel
theorem witness_CloseDecidesMembership :
    (let s : State := { active with rcm := { active.rcm with presence := active.rcm.presence.set 2 (some 2) } };
      departureAt s 2 = some .timeout ∧ departureAt s 1 = none ∧ s.rcm.presence[1] = some 0 ∧
        s.rcm.record[1] = none) ∧
    (let s : State := { active with rcm := { active.rcm with
        record := active.rcm.record.set 9 (some { rollWord 0#16 with join := true }) } };
      arrivalAt s 9 ∧ s.rcm.presence[9] = none) ∧
    (let s : State := { active with rcm := { active.rcm with record := active.rcm.record.set 2 (some (rollWord 0#16)) } };
      departureAt s 2 = none ∧ ¬arrivalAt s 2 ∧ s.rcm.record[2] = some (rollWord 0#16)) ∧
    (let s : State := { active with rcm := { active.rcm with presence := active.rcm.presence.set 2 (some 2) } };
      highest (fun b => (departureAt s b).isSome) 2 ∧ s.sync.cycleNumber = some 7#16) ∧
    (RetryListSound [waiting 0 none false] ∧ ∀ a : Addr, departureAt active a = none) := by
  refine ⟨by decide +kernel, ⟨?_, by decide +kernel⟩, ⟨by decide +kernel, ?_, by decide +kernel⟩,
    ⟨by constructor <;> decide +kernel, by decide +kernel⟩, by constructor <;> decide, by decide +kernel⟩
  · simp [arrivalAt, State.own, active, knowing, station]
  · simp [arrivalAt, State.own, active, knowing, station, rollWord]
/-- The ACTIVE station with these frames of class 0 queued and these retry entries. -/
def sendingTo (q : List TxFrame) (l : List RetryEntry) : State :=
  { active with txe := { active.txe with q0 := q }, dlt := { active.dlt with retry := l } }

theorem witness_PhasesInWhichNothingIsSent :
    (active.ptu.table[4] ≠ .owned active.own ∧ listening.sync.state ≠ .active) ∧
    (active.sync.state = .active ∧ active.slotTiming = true ∧ active.ptu.table[3] = .owned active.own ∧
      (∀ e ∈ active.dlt.retry, e.due = none) ∧ active.txe.q0 = [] ∧ active.txe.q1 = [] ∧ active.txe.q2 = [] ∧
      active.txe.q3 = []) ∧
    (let s := sendingTo [queued (.unicast 9), queued (.unicast 9), queued (.unicast 2)] [waiting 1 none false];
      s.sync.state = .active ∧ s.slotTiming = true ∧ s.ptu.table[3] = .owned s.own ∧
      (∀ e ∈ s.dlt.retry, e.due = none) ∧ (∀ j : Fin 16, servable s (classAt s j) = false) ∧
      droppedHeads s .c0 = [queued (.unicast 9), queued (.unicast 9)]) := by decide +kernel
theorem witness_DueEntryIsSentFirst : RetryListSound [waiting 0 (some 3#8) false] ∧
    (∃ e ∈ [waiting 0 (some 3#8) false], e.due ≠ none) :=
  ⟨⟨by decide, by decide, by decide⟩, by decide⟩
theorem witness_HeadsAreSentFromTheirQueue :
    (let s := sendingTo [queued (.unicast 9), queued (.unicast 2)] [];
      classAt s 0 = .c0 ∧ liveQueue s .c0 = queued (.unicast 2) :: [] ∧ canSend s (queued (.unicast 2)) = true ∧
      ∀ e ∈ s.dlt.retry, e.due = none) ∧
    (let s : State := { sendingTo [queued (.unicast 2)] [waiting 1 none false] with
        txe := { active.txe with q0 := [queued (.unicast 2)], q2 := [queued .broadcast] } };
      (∀ i : Fin 16, i < 3 → servable s (classAt s i) = false) ∧ classAt s 3 = .c2 ∧
      liveQueue s .c2 = queued .broadcast :: [] ∧ canSend s (queued .broadcast) = true ∧
      examined s 3 = [.c0, .c1, .c2]) := by decide +kernel
theorem witness_ListenAndLineFaultTimersAndTheLeave :
    (listening.sync.listenTimer = .running 203400 ∧ listening.sync.state = .listening) ∧
    (let s := after .markerSlotEnd (lostOne .relearn);
      s.sync.listenTimer = .running 0 ∧ s.sync.state = .relearn ∧ s.sync.withdrawPending = false ∧
        { s.sync with withdrawPending := true }.withdrawPending = true) ∧
    active.sync.listenTimer = .stopped ∧
    { active.lif with lineFaultTimer := .running 0 }.lineFaultTimer = .running 0 ∧
    active.lif.lineFaultTimer = .stopped ∧ active.sync.state.onLine = true ∧
    { active.sync with withdrawPending := true }.withdrawPending = true ∧
    { active.sync with leaveSent := true }.leaveSent = true ∧ active.sync.leaveSent = false := by decide +kernel
theorem witness_TakeoverTimerFoundsOrTakesTheTiming :
    (let s := after .listenTimerExpiry listening;
      s.sync.takeoverTimer = .running 1800 ∧ s.sync.state = .listening) ∧
    (let s := after .markerSlotEnd (lostOne .active);
      s.sync.takeoverTimer = .running 1800 ∧ s.sync.state = .active ∧ s.sync.cond = .suspended ∧
        s.sync.withdrawPending = false ∧ s.sync.cycleNumber = some 7#16) ∧
    active.sync.takeoverTimer = .stopped := by decide +kernel
theorem witness_LineFormatsRoundTrip : (2 ≤ marker.limit ∧ marker.limit ≤ 7 ∧
    (∀ a : Addr, marker.presence[a].getD 0 ≤ 7)) ∧ active.lif.tx = none ∧
    (sending .marker holder).lif.tx = some { frame := .marker, bytes := [1#8] } ∧
    ({ rollWord 0#16 with claims := List.replicate 8 0#8, releases := List.replicate 8 1#8,
                          acks := List.replicate 4 (1#8, 2#8) } : RollWord).claims.length ≤ 8 ∧
    (List.replicate 60 (0#8 : Byte)).length ≤ 60 ∧ (List.replicate 60 (0#8 : Byte)).length % 4 = 0 := by decide +kernel

/-! ## Witnesses of the invariants: an ACTIVE holder and a step from it -/

theorem witness_invariants : holder.pool = 48 ∧ RetryListSound holder.dlt.retry ∧ ReceiveSound holder.own holder.rxe ∧
    TimingSound holder ∧ PresenceSound holder.rcm ∧ ClaimsSound holder ∧ FaultsSound holder.fru ∧
    ConfigurationSound holder.cfg.config ∧ StartSound holder := by
  refine ⟨by decide +kernel, by constructor <;> decide +kernel, ?_, ?_, ⟨by decide +kernel, ?_, by decide +kernel⟩, ?_,
    by constructor <;> decide +kernel, by constructor <;> decide +kernel, ?_⟩
  · have h : holder.rxe = Rxe.reset := rfl
    rw [h]
    exact ⟨by decide, List.Pairwise.nil, fun p hp => absurd hp (by simp [Rxe.reset]),
      fun p hp => absurd hp (by simp [Rxe.reset])⟩
  · constructor <;> first | decide +kernel | exact fun _ _ => by decide +kernel
  · intro a n h
    have hb : ∀ a : Addr, holder.rcm.presence[a].getD 0 ≤ 7 := by decide +kernel
    have := hb a
    rw [h] at this; simpa using this
  · exact ⟨by decide +kernel, fun c h => absurd h (by simp [holder, active, knowing, station, State.reset, Cru.reset]),
      by decide +kernel, by decide +kernel⟩
  · intro h; exact absurd (by decide +kernel) h

/-- The station right after founding has a table that is sound. -/
theorem witness_TheTableStaysSound : TableSound State.reset ∧ StartSound State.reset := by
  refine ⟨⟨?_, ?_, ?_, ?_⟩, sound_until_started _ rfl⟩
  · intro _ k; simp [State.reset, Ptu.reset]
  · intro k; simp [State.reset, Ptu.reset]
  · intro h; exact absurd h (by decide)
  · simp [State.reset, Ptu.reset, fullyKnown]
theorem witness_steps : step (holder.withPending [.cycleStart]) = .next (after .cycleStart (holder.withPending [])) := by
  rfl
theorem witness_RecordsThatOutlastCommands_first :
    masking.fru.first = some { kind := .frameCheck, cycle := none, state := .active, ctx := .phase 0 } ∧
    Instr.cycleStart ≠ .powerOnReset ∧ (∀ l, Instr.cycleStart ≠ .clearFaults l) ∧
    exec .cycleStart masking = .next (after .cycleStart masking) := by
  exact ⟨by decide +kernel, by decide, fun l => by simp, rfl⟩
theorem witness_RecordsThatOutlastCommands : (post .holder active).isPending .holder = true ∧
    exec .cycleStart (post .holder active) = .next (after .cycleStart (post .holder active)) ∧
    (∀ l, Instr.cycleStart ≠ .ackEvents l) ∧ ∀ n, Instr.cycleStart ≠ .transactionEnd n :=
  ⟨by decide +kernel, rfl, fun l => by simp, fun n => by simp⟩
theorem witness_AStationDrivesOnlyItsOwnSlots :
    exec .ownRollSlot active = .next (after .ownRollSlot active) ∧ active.lif.tx = none ∧
    (after .ownRollSlot active).lif.tx.isSome = true ∧ (after .cycleStart holder).lif.tx.isSome = true ∧
    (after (.dataPhase 3) { active with txe := { active.txe with q0 := [queued (.unicast 2)] } }).lif.tx.isSome =
      true := ⟨rfl, by decide +kernel⟩

end Sys2Proof.Tests
end

namespace Sys2Proof.Machine

/-! ## Answers and steps -/

theorem next_inj {s t : State} (h : (Host.Outcome.next s : Answer) = .next t) : t = s := by cases h; rfl

/-- A step from a state with `P` to one with `Q`, where the queue and the port tell neither, is a command's doing. -/
theorem step_leads {P Q : State → Prop} (weaker : ∀ s, P s → Q s) (queue : ∀ s q, P s → P (s.withPending q))
    (port : ∀ s h, P s → P (s.withHp h)) (command : ∀ i s t, P s → exec i s = .next t → Q t) :
    ∀ s t, P s → step s = .next t → Q t := by
  intro s t hs ht
  unfold step at ht
  split at ht
  · obtain ⟨h, -, hn | ⟨c, he⟩⟩ := clockPort_cases s
    · rw [hn] at ht; obtain rfl := next_inj ht; exact weaker _ (port _ _ hs)
    · exact command _ _ _ (port _ _ hs) (he ▸ ht)
  · exact command _ _ _ (queue _ _ hs) ht

/-- The commands of the host port that reach neither the line nor the sync state. -/
def portOnly : Instr → Bool
  | .transactionBegin _ | .badRequest _ _ | .status _ | .push _ | .popRx _ | .popRxCommit | .popDone _
  | .popDoneCommit | .claim _ | .claimAt _ | .release _ | .releaseAll _ | .readTable _ | .readFaults _
  | .clearFaults _ | .readEvents _ | .ackEvents _ | .setEnables _ | .stagePattern _ | .applyPattern _
  | .softReset _ | .readConfig _ => true
  | _ => false

/-- LIF, SYNC and CFG of `t` are those of `s`. -/
structure SameLine (s t : State) : Prop where
  lif : t.lif = s.lif
  sync : t.sync = s.sync
  cfg : t.cfg = s.cfg

/-- A request whose rule keeps LIF, SYNC and CFG keeps them. -/
theorem takeRequest_sameLine (code : Byte) (ok : Bool) (args : List Byte) (rule : State → Result) (s : State)
    (h : SameLine s (rule s).state) : SameLine s (takeRequest code ok args rule s) :=
  ⟨takeRequest_keeps State.lif (fun _ _ => rfl) _ _ _ _ _ h.lif,
    takeRequest_keeps State.sync (fun _ _ => rfl) _ _ _ _ _ h.sync,
    takeRequest_keeps State.cfg (fun _ _ => rfl) _ _ _ _ _ h.cfg⟩

theorem exec_sameLine {i : Instr} {s t : State} (hi : portOnly i = true) (h : exec i s = .next t) : SameLine s t := by
  cases i with
  | transactionBegin _ | badRequest _ _ | popRxCommit | popDoneCommit =>
    obtain rfl := next_inj h
    (repeat' split) <;> constructor <;> simp
  | status _ | readFaults _ | clearFaults _ | readEvents _ | applyPattern _ | softReset _ | readConfig _ =>
    obtain rfl := next_inj h
    exact takeRequest_sameLine _ _ _ _ _ ⟨rfl, rfl, rfl⟩
  | popRx _ | popDone _ | releaseAll _ =>
    obtain rfl := next_inj h
    apply takeRequest_sameLine
    split <;> exact ⟨rfl, rfl, rfl⟩
  | push _ | claim _ | claimAt _ | release _ | readTable _ | ackEvents _ | setEnables _ | stagePattern _ =>
    obtain rfl := next_inj h
    apply takeRequest_sameLine
    dsimp only [pushRule, claimRule, claimAtRule, releaseRule, readTableRule, ackEventsRule, setEnablesRule,
      stagePatternRule]
    (repeat' split) <;> exact ⟨rfl, rfl, rfl⟩
  | _ => cases hi
end Sys2Proof.Machine

namespace Sys2Proof.Machine

theorem SameLine.refl (s : State) : SameLine s s := ⟨rfl, rfl, rfl⟩

theorem SameLine.trans {s t u : State} (h : SameLine s t) (h' : SameLine t u) : SameLine s u :=
  ⟨h'.lif.trans h.lif, h'.sync.trans h.sync, h'.cfg.trans h.cfg⟩

theorem SameLine.own {s t : State} (h : SameLine s t) : t.own = s.own := by unfold State.own; rw [h.cfg]

theorem recordFault_sameLine (k : FaultKind) (ctx : FaultCtx) (s : State) : SameLine s (recordFault k ctx s) :=
  ⟨by simp, by simp, by simp⟩

theorem adoptPresence_sameLine (m : Marker) (s : State) : SameLine s (adoptPresence m s) :=
  ⟨by simp, by simp, by simp⟩

theorem markerSegment_sameLine (m : Marker) (s : State) : SameLine s (markerSegment m s) :=
  ⟨by simp, by simp, by simp⟩

/-! ## LIF, operation by operation -/

@[simp] theorem transmit_lif (f : SentFrame) (b : List Byte) (s : State) :
    (transmit f b s).lif = { s.lif with tx := some { frame := f, bytes := b } } := rfl

@[simp] theorem sendMarker_lif (s : State) :
    (sendMarker s).lif = { s.lif with tx := some { frame := .marker, bytes := (ownMarker s).bytes } } := rfl

@[simp] theorem cutTransmission_lif (s : State) : (cutTransmission s).lif = { s.lif with tx := none } := rfl

@[simp] theorem endReception_lif (s : State) : (endReception s).lif = { s.lif with rx := none } := rfl

@[simp] theorem rollHad_lif (k : Addr) (s : State) :
    (rollHad k s).lif = { s.lif with rollDone := s.lif.rollDone.set k true } := rfl

@[simp] theorem phaseHad_lif (k : Phase) (s : State) :
    (phaseHad k s).lif = { s.lif with phaseDone := s.lif.phaseDone.set k true } := rfl

/-! ## What an operation does to the line: it keeps LIF and does not withdraw, or it resets LIF -/

/-- LIF stands and the station has not withdrawn; or LIF is released, as it is when the station withdraws. -/
def LineKept (s t : State) : Prop :=
  (t.lif = s.lif ∧ (t.sync.state = .withdrawn → s.sync.state = .withdrawn)) ∨ t.lif = Lif.reset

theorem LineKept.trans {s t u : State} (h : LineKept s t) (h' : LineKept t u) : LineKept s u := by
  rcases h' with ⟨hl', hw'⟩ | hr'
  · rcases h with ⟨hl, hw⟩ | hr
    · exact .inl ⟨hl'.trans hl, fun hu => hw (hw' hu)⟩
    · exact .inr (hl'.trans hr)
  · exact .inr hr'

theorem SameLine.kept {s t : State} (h : SameLine s t) : LineKept s t :=
  .inl ⟨h.lif, fun ht => by rw [← h.sync]; exact ht⟩

theorem withdrawNow_lineKept (s : State) : LineKept s (withdrawNow s) := .inr (by simp)

theorem fatal_lineKept (k : FaultKind) (ctx : FaultCtx) (s : State) : LineKept s (fatal k ctx s) := by
  unfold fatal; dsimp only
  split
  · exact (recordFault_sameLine k ctx s).kept.trans (withdrawNow_lineKept _)
  · exact (recordFault_sameLine k ctx s).kept

theorem degradeToRelearn_lineKept (k : FaultKind) (ctx : FaultCtx) (s : State) :
    LineKept s (degradeToRelearn k ctx s) := by
  unfold degradeToRelearn; dsimp only
  split
  · rename_i ha
    refine .inl ⟨by simp, fun hw => ?_⟩
    rw [toRelearn_sync _ (by simpa using ha)] at hw; cases hw
  · exact (recordFault_sameLine k ctx s).kept

theorem learningSuccess_lineKept (s : State) : LineKept s (learningSuccess s) := by
  refine .inl ⟨by simp, fun hw => ?_⟩
  revert hw; unfold learningSuccess; dsimp only
  split <;> simp

theorem learningFailure_lineKept (s : State) : LineKept s (learningFailure s) := by
  unfold learningFailure; dsimp only
  split
  · exact .inl ⟨by simp, fun hw => by simpa using hw⟩
  · exact (SameLine.kept ⟨by simp, by simp, by simp⟩).trans (fatal_lineKept _ _ _)

theorem markerLearn_lineKept (s : State) : LineKept s (markerLearn s) := by
  unfold markerLearn
  split
  · exact .inl ⟨by simp, fun hw => by simp at hw⟩
  · exact (SameLine.refl s).kept

theorem markerCompare_lineKept (m : Marker) (s : State) : LineKept s (markerCompare m s) := by
  unfold markerCompare
  (repeat' split)
  · exact (SameLine.refl s).kept
  · exact degradeToRelearn_lineKept _ _ _
  · exact learningSuccess_lineKept s
  · exact learningFailure_lineKept s
  · exact (SameLine.refl s).kept

theorem displacementTest_lineKept (s : State) : LineKept s (displacementTest s) := by
  unfold displacementTest; dsimp only
  (repeat' split)
  · exact (recordFault_sameLine _ _ s).kept.trans (withdrawNow_lineKept _)
  · exact .inl ⟨by simp, fun hw => by simp at hw⟩
  · exact .inl ⟨by simp, fun hw => by simp at hw⟩
  · exact (SameLine.refl s).kept

/-- R81: what the steps behind the timing make of the line. -/
theorem takeMarker_lineKept (m : Marker) (o : Int) (restart : Bool) (s : State) :
    LineKept (markerTiming m o restart s) (takeMarker m o restart s) := by
  have h := (markerLearn_lineKept (markerTiming m o restart s)).trans (markerCompare_lineKept m _)
  unfold takeMarker; dsimp only
  split
  · exact h
  · exact ((h.trans (adoptPresence_sameLine m _).kept).trans (displacementTest_lineKept _)).trans
      (markerSegment_sameLine m _).kept

end Sys2Proof.Machine

namespace Sys2Proof.Machine

/-! ## The timing stays sound -/

/-- No start marker is on record. -/
def NoMarker (s : State) : Prop := ∀ b, s.lif.tx ≠ some { frame := .marker, bytes := b }

theorem LineKept.noMarker {s t : State} (h : LineKept s t) (hm : NoMarker s) : NoMarker t := by
  rcases h with ⟨hl, -⟩ | hr
  · intro b; rw [hl]; exact hm b
  · intro b; rw [hr]; simp [Lif.reset]

theorem TimingSound.noMarker {s : State} (h : TimingSound s) (hh : s.sync.holder = false) : NoMarker s := by
  intro b hb; have := h.marker b hb; simp_all

/-- `TimingSound` speaks of SYNC, the own address, whether a marker is on record and whether a reception goes on. -/
theorem TimingSound.congr {s t : State} (h : TimingSound s) (hs : t.sync = s.sync) (hc : t.cfg = s.cfg)
    (htx : t.lif.tx = s.lif.tx ∨ NoMarker t) (hrx : t.lif.rx = s.lif.rx ∨ t.lif.rx = none) : TimingSound t where
  holder := by rw [hs, State.own, hc]; exact h.holder
  cond := by rw [hs]; exact h.cond
  number := by rw [hs]; exact h.number
  address := by rw [hs]; exact h.address
  withdraw := by rw [hs]; exact h.withdraw
  lost := by rw [hs]; exact h.lost
  marker := by
    intro b hb; rw [hs]
    rcases htx with he | hn
    · exact h.marker b (he ▸ hb)
    · exact absurd hb (hn b)
  reception := by
    intro hr; rw [hs]
    rcases hrx with he | hn
    · exact h.reception (he ▸ hr)
    · exact absurd hn hr

theorem TimingSound.sameLine {s t : State} (h : TimingSound s) (hl : SameLine s t) : TimingSound t :=
  h.congr hl.sync hl.cfg (.inl (by rw [hl.lif])) (.inl (by rw [hl.lif]))

theorem timingSound_recordFault {s : State} (h : TimingSound s) (k : FaultKind) (ctx : FaultCtx) :
    TimingSound (recordFault k ctx s) := h.sameLine ⟨by simp, by simp, by simp⟩

theorem timingSound_withdrawNow (s : State) : TimingSound (withdrawNow s) := by
  constructor <;> simp [withdrawNow_sync, Sync.stop, SyncState.timed, Lif.reset]

theorem timingSound_fatal {s : State} (h : TimingSound s) (k : FaultKind) (ctx : FaultCtx) :
    TimingSound (fatal k ctx s) := by
  unfold fatal; dsimp only
  split
  · exact timingSound_withdrawNow _
  · exact timingSound_recordFault h k ctx

theorem timingSound_enterListening {s : State} (hm : NoMarker s) : TimingSound (enterListening s) := by
  constructor <;> simp [enterListening_sync, Sync.stop, SyncState.timed, SyncState.onLine]
  exact hm

theorem timingSound_toRelearn {s : State} (h : TimingSound s) (hm : NoMarker s) (ha : s.sync.state = .active) :
    TimingSound (toRelearn s) := by
  have hc := h.cond; have hn := h.number; have hd := h.address; have hl := h.lost
  simp only [ha, SyncState.timed] at hc hn hd
  constructor <;> simp [toRelearn_sync s ha, SyncState.timed, SyncState.onLine, hn, hd, hc]
  · split <;> simp_all
  · exact hm

theorem timingSound_suspend {s : State} (ht : s.sync.state.timed = true) (hh : s.sync.holder = false)
    (hn : s.sync.cycleNumber.isSome = true) (hd : s.sync.holderAddr.isSome = true)
    (hw : s.sync.withdrawPending = true → s.sync.state = .active ∨ s.sync.state = .relearn) (hl : s.sync.lost ≤ 2)
    (hr : s.lif.rx ≠ none → s.sync.state.onLine = true) : TimingSound (suspend s) := by
  constructor <;> simp only [suspend_sync, suspend_lif] <;> split <;> simp_all
end Sys2Proof.Machine

namespace Sys2Proof.Machine

theorem timed_of_onLine {st : SyncState} (hl : st.onLine = true) (hs : st ≠ .listening) : st.timed = true := by
  cases st <;> simp_all [SyncState.timed, SyncState.onLine]

theorem onLine_of_timed {st : SyncState} (h : st.timed = true) : st.onLine = true := by
  cases st <;> simp_all [SyncState.timed, SyncState.onLine]

/-- R81 steps 1 and 2: a marker gives a station on the line that is not holder its timing. -/
theorem timingSound_markerTiming {s : State} (m : Marker) (o : Int) (restart : Bool) (hh : s.sync.holder = false)
    (hl : s.sync.state.onLine = true)
    (hw : s.sync.withdrawPending = true → s.sync.state = .active ∨ s.sync.state = .relearn)
    (hm : restart = true ∨ NoMarker s) : TimingSound (markerLearn (markerTiming m o restart s)) := by
  have hst : (markerTiming m o restart s).sync.state = s.sync.state := by rw [markerTiming_sync]
  have htx : NoMarker (markerTiming m o restart s) := by
    rcases hm with rfl | hn
    · intro b; simp
    · cases restart
      · intro b; simpa using hn b
      · intro b; simp
  unfold markerLearn
  by_cases hs : s.sync.state = .listening
  · rw [if_pos (hst.trans hs)]
    constructor <;> simp_all [markerTiming_sync, SyncState.timed, SyncState.onLine]
    simpa [NoMarker] using htx
  · rw [if_neg (fun h => hs (hst.symm.trans h))]
    have ht := timed_of_onLine hl hs
    constructor <;> simp_all [markerTiming_sync]
    simpa [NoMarker] using htx

theorem markerLearn_sync (s : State) : (markerLearn s).sync =
    { s.sync with state := if s.sync.state = .listening then .learning else s.sync.state } := by
  unfold markerLearn; split <;> simp_all

theorem timingSound_learningSuccess {s : State} (h : TimingSound s) (hh : s.sync.holder = false)
    (hs : s.sync.state = .learning ∨ s.sync.state = .relearn) : TimingSound (learningSuccess s) := by
  have hm := h.noMarker hh
  obtain ⟨-, hc, hn, hd, hw, hl, -, hr⟩ := h
  unfold learningSuccess
  rcases hs with hs | hs <;> constructor <;> simp_all [SyncState.timed, SyncState.onLine, NoMarker]

theorem timingSound_learningFailure {s : State} (h : TimingSound s) : TimingSound (learningFailure s) := by
  unfold learningFailure; dsimp only
  split
  · exact h.sameLine ⟨by simp, by simp, by simp⟩
  · exact timingSound_fatal (h.sameLine ⟨by simp, by simp, by simp⟩) _ _

theorem timingSound_degradeToRelearn {s : State} (h : TimingSound s) (hm : NoMarker s) (k : FaultKind)
    (ctx : FaultCtx) : TimingSound (degradeToRelearn k ctx s) := by
  have hf := timingSound_recordFault h k ctx
  unfold degradeToRelearn; dsimp only
  split
  · rename_i ha
    exact timingSound_toRelearn hf ((recordFault_sameLine k ctx s).kept.noMarker hm) (by simpa using ha)
  · exact hf

/-- R81 step 3. -/
theorem timingSound_markerCompare {s : State} (h : TimingSound s) (hh : s.sync.holder = false) (m : Marker) :
    TimingSound (markerCompare m s) := by
  unfold markerCompare
  split
  · split
    · exact h
    · exact timingSound_degradeToRelearn h (h.noMarker hh) _ _
  · split
    · rename_i hs
      split
      · exact timingSound_learningSuccess h hh hs.1
      · exact timingSound_learningFailure h
    · exact h

/-- R83, R94, R95. -/
theorem timingSound_displacementTest {s : State} (h : TimingSound s) (hm : NoMarker s) :
    TimingSound (displacementTest s) := by
  unfold displacementTest
  split
  · rename_i hs
    dsimp only
    split
    · exact timingSound_withdrawNow _
    · obtain ⟨hh, hc, hn, hd, hw, hl, -, hr⟩ := h
      rcases hs.1 with hs | hs <;>
        simp only [hs] <;> constructor <;> simp_all [leaveActive_sync, SyncState.timed, SyncState.onLine, NoMarker]
  · exact h

/-- R81: a marker taken by a station on the line that is not holder. -/
theorem timingSound_takeMarker {s : State} (m : Marker) (o : Int) (restart : Bool) (hh : s.sync.holder = false)
    (hl : s.sync.state.onLine = true)
    (hw : s.sync.withdrawPending = true → s.sync.state = .active ∨ s.sync.state = .relearn)
    (hm : restart = true ∨ NoMarker s) : TimingSound (takeMarker m o restart s) := by
  have h1 := timingSound_markerTiming m o restart hh hl hw hm
  have hh1 : (markerLearn (markerTiming m o restart s)).sync.holder = false := by
    rw [markerLearn_sync, markerTiming_sync]; exact hh
  have h2 := timingSound_markerCompare h1 hh1 m
  have h3 := h2.sameLine (adoptPresence_sameLine m _)
  have hm3 := (adoptPresence_sameLine m _).kept.noMarker ((markerCompare_lineKept m _).noMarker (h1.noMarker hh1))
  unfold takeMarker; dsimp only
  split
  · exact h2
  · exact (timingSound_displacementTest h3 hm3).sameLine (markerSegment_sameLine m _)

/-- R80, R87. -/
theorem timingSound_handleMarker {s : State} (h : TimingSound s) (m : Marker) (o : Int) :
    TimingSound (handleMarker m o s) := by
  unfold handleMarker
  split
  · exact h
  rename_i hl
  rw [Bool.not_eq_false] at hl
  split
  · exact timingSound_fatal h _ _
  split
  · rename_i hs
    have hh : s.sync.holder = false := by
      by_contra hc; have := (h.holder (by simpa using hc)).1; simp_all
    exact timingSound_takeMarker m o true hh hl h.withdraw (.inl rfl)
  split
  · split
    · apply timingSound_takeMarker m o true _ _ _ (.inl rfl) <;> rw [dropHolder_sync]
      · exact hl
      · exact h.withdraw
    · exact h
  rename_i hh
  rw [Bool.not_eq_true] at hh
  split
  · exact timingSound_takeMarker m o true hh hl h.withdraw (.inl rfl)
  split
  · exact timingSound_takeMarker m o false hh hl h.withdraw (.inr (h.noMarker hh))
  · exact h

end Sys2Proof.Machine

namespace Sys2Proof.Machine

/-- What holds of the state behind a reception holds behind what LIF does with its bytes, if it holds
where the reception is taken, in progress, or not heard. -/
theorem hear_leads {P : State → Prop} {part : Part} {b : List Byte} {running : Bool}
    {take : List Byte → State → State} {s : State} (still : P s)
    (begins : running = true → P (s.withLif { s.lif with rx := some b }))
    (taken : ∀ bytes, P (take bytes s)) (ended : ∀ bytes, P (take bytes (endReception s))) :
    P (hear part b running take s) := by
  rcases hear_cases part b running take s with ⟨-, h⟩ | ⟨-, hr, h⟩ | ⟨first, -, -, h⟩ | h <;> rw [h]
  · exact taken b
  · exact begins hr
  · exact ended _
  · exact still

theorem timingSound_endReception {s : State} (h : TimingSound s) : TimingSound (endReception s) :=
  h.congr rfl rfl (.inl rfl) (.inr rfl)

theorem timingSound_rollHad {s : State} (h : TimingSound s) (k : Addr) : TimingSound (rollHad k s) :=
  h.congr rfl rfl (.inl rfl) (.inl rfl)

theorem timingSound_phaseHad {s : State} (h : TimingSound s) (k : Phase) : TimingSound (phaseHad k s) :=
  h.congr rfl rfl (.inl rfl) (.inl rfl)

theorem timingSound_cutTransmission {s : State} (h : TimingSound s) : TimingSound (cutTransmission s) :=
  h.congr rfl rfl (.inr fun _ => by simp [cutTransmission]) (.inl rfl)

/-- R10, R13: a reception begins where the receiver runs. -/
theorem timingSound_begins {s : State} (h : TimingSound s) (b : List Byte) (hl : s.sync.state.onLine = true) :
    TimingSound (s.withLif { s.lif with rx := some b }) :=
  { h with reception := fun _ => hl }

theorem timingSound_takeMarkerBytes {s : State} (h : TimingSound s) (o : Int) (g : Bool) (b : List Byte) :
    TimingSound (takeMarkerBytes o g b s) := by
  unfold takeMarkerBytes
  (repeat' split)
  · exact h
  · exact timingSound_recordFault h _ _
  · exact h
  · exact timingSound_handleMarker h _ o

theorem acceptRollWord_sameLine (k : Addr) (w : RollWord) (s : State) : SameLine s (acceptRollWord k w s) :=
  ⟨by simp, by simp, by simp⟩

theorem reportRollWord_sameLine (k : Addr) (w : RollWord) (s : State) : SameLine s (reportRollWord k w s) :=
  ⟨by simp, by simp, by simp⟩

theorem reportDataFrame_sameLine (k : Phase) (f : DataFrame) (s : State) : SameLine s (reportDataFrame k f s) :=
  ⟨by simp, by simp, by simp⟩

theorem actOnPhase_sameLine (k : Phase) (f : Option DataFrame) (s : State) : SameLine s (actOnPhase k f s) :=
  ⟨by simp, by simp, by simp⟩

theorem timingSound_checkRollWord {s : State} (h : TimingSound s) (k : Addr) (w : RollWord) :
    TimingSound (checkRollWord k w s) := by
  unfold checkRollWord
  (repeat' split)
  · exact timingSound_recordFault h _ _
  · exact timingSound_fatal h _ _
  · exact timingSound_recordFault h _ _
  · exact timingSound_recordFault h _ _
  · exact h.sameLine (acceptRollWord_sameLine k w s)

theorem timingSound_takeRollBytes {s : State} (h : TimingSound s) (k : Addr) (g : Bool) (b : List Byte) :
    TimingSound (takeRollBytes k g b s) := by
  have hk := timingSound_rollHad h k
  unfold takeRollBytes
  (repeat' split)
  · exact timingSound_recordFault h _ _
  · exact h.sameLine (reportRollWord_sameLine k _ s)
  · exact h
  · exact timingSound_recordFault hk _ _
  · exact timingSound_checkRollWord hk k _
  · exact h

theorem timingSound_takeDataBytes {s : State} (h : TimingSound s) (k : Phase) (g : Bool) (b : List Byte) :
    TimingSound (takeDataBytes k g b s) := by
  unfold takeDataBytes
  (repeat' split)
  · exact timingSound_recordFault h _ _
  · exact h.sameLine (reportDataFrame_sameLine k _ s)
  · exact h
  · exact (timingSound_phaseHad h k).sameLine (actOnPhase_sameLine k _ _)
  · exact h

/-- R88. -/
theorem timingSound_markerLost {s : State} (h : TimingSound s) (ht : s.slotTiming = true)
    (hh : s.sync.holder = false) : TimingSound (markerLost s) := by
  have hm := h.noMarker hh
  obtain ⟨-, hc, hn, hd, hw, hl, -, hr⟩ := h
  have hst : s.sync.state.timed = true ∧ (s.sync.cond = .running ∨ s.sync.cond = .flywheel) := by
    simpa [State.slotTiming] using ht
  have hlost : s.sync.lost ≤ 1 := hl.2 (by rcases hst.2 with h | h <;> simp [h])
  unfold markerLost; dsimp only
  split
  · constructor <;> simp_all [NoMarker]
  · apply timingSound_suspend <;> simp_all

/-- R11, R86. -/
theorem timingSound_ownMarkerReadBack {s t : State} (h : TimingSound s) (r : Reception)
    (ht : exec (.ownMarkerReadBack r) s = .next t) : TimingSound t := by
  obtain rfl := next_inj ht
  split
  · rename_i sent hs
    have hh := h.marker _ hs
    obtain ⟨ha, hrun, hown, hvac⟩ := h.holder hh
    have hc1 := timingSound_cutTransmission h
    obtain ⟨-, hc, hn, hd, hw, hl, -, hr⟩ := h
    dsimp only
    split
    · constructor <;> simp_all [SyncState.timed, State.own, cutTransmission]
    split
    · constructor <;> simp_all [SyncState.timed, State.own, cutTransmission]
    · apply timingSound_suspend <;> simp_all [dropHolder_sync, SyncState.timed, SyncState.onLine]
  · exact h

theorem timingSound_rollCollision {s : State} (h : TimingSound s) : TimingSound (rollCollision s) := by
  unfold rollCollision; dsimp only
  split
  · exact h.sameLine ⟨rfl, rfl, rfl⟩
  · exact timingSound_fatal (h.sameLine ⟨by simp, by simp, by simp⟩) _ _

/-- R11, R39. -/
theorem timingSound_ownRollReadBack {s t : State} (h : TimingSound s) (r : Reception)
    (ht : exec (.ownRollReadBack r) s = .next t) : TimingSound t := by
  have h1 := timingSound_rollHad (timingSound_cutTransmission h) s.own
  obtain rfl := next_inj ht
  split
  · dsimp only
    (repeat' split)
    · exact h1
    · exact h1.sameLine ⟨rfl, rfl, rfl⟩
    · exact timingSound_fatal h1 _ _
    · exact timingSound_rollCollision h1
  · exact h

theorem finishBroadcast_sameLine (c : Cls) (st : DoneStatus) (s : State) : SameLine s (finishBroadcast c st s) :=
  ⟨by simp, by simp, by simp⟩

theorem phaseClean_sameLine (s : State) : SameLine s (phaseClean s) := ⟨by simp, by simp, by simp⟩

theorem timingSound_phaseCollision {s : State} (h : TimingSound s) (hm : NoMarker s) (k : Phase) :
    TimingSound (phaseCollision k s) := by
  have h1 := timingSound_recordFault h .txCollision (.phase k)
  unfold phaseCollision; dsimp only
  (repeat' split)
  · exact h1
  · exact h1.sameLine ⟨rfl, rfl, rfl⟩
  · exact timingSound_degradeToRelearn h1 ((recordFault_sameLine _ _ s).kept.noMarker hm) _ _

/-- R11, R111, R112. -/
theorem timingSound_ownDataReadBack {s t : State} (h : TimingSound s) (r : Reception)
    (ht : exec (.ownDataReadBack r) s = .next t) : TimingSound t := by
  obtain rfl := next_inj ht
  split
  · rename_i k bcast sent _
    have h1 := timingSound_phaseHad (timingSound_cutTransmission h) k
    have marked : ∀ u, SameLine (phaseHad k (cutTransmission s)) u →
        TimingSound (if readBackIntact sent r then phaseClean u else phaseCollision k u) := by
      intro u hl
      have hm : NoMarker u := hl.kept.noMarker fun _ => by simp [phaseHad, cutTransmission]
      split
      · exact (h1.sameLine hl).sameLine (phaseClean_sameLine u)
      · exact timingSound_phaseCollision (h1.sameLine hl) hm k
    cases bcast with
    | none => exact marked _ (.refl _)
    | some c => exact marked _ (finishBroadcast_sameLine _ _ _)
  · exact h

end Sys2Proof.Machine

namespace Sys2Proof.Machine

/-- R14, R85, R89. -/
theorem timingSound_cycleStart {s t : State} (h : TimingSound s) (ht : exec .cycleStart s = .next t) :
    TimingSound t := by
  have hm := h.noMarker
  obtain ⟨hh, hc, hn, hd, hw, hl, hmk, hr⟩ := h
  obtain rfl := next_inj ht
  split
  · rename_i hst
    have hst : s.sync.state.timed = true ∧ (s.sync.cond = .running ∨ s.sync.cond = .flywheel) := by
      simpa [State.slotTiming] using hst
    dsimp only
    split
    · rename_i hv
      have hh' : s.sync.holder = false := by by_contra hc; simp_all
      apply timingSound_suspend <;> simp_all
    · split
      · constructor <;> simp_all [nextNumber, State.own]
      · constructor <;> simp_all [nextNumber, State.own, NoMarker]
  · exact ⟨hh, hc, hn, hd, hw, hl, hmk, hr⟩

/-- The record that a selection leaves is the one it found, or a data frame of the phase. -/
def KeptOrData (k : Phase) (s t : State) : Prop :=
  t.lif.rx = s.lif.rx ∧ (t.lif.tx = s.lif.tx ∨ ∃ c b, t.lif.tx = some { frame := .data k c, bytes := b })

theorem sendHead_lif (k : Phase) (i : Fin 16) (c : Cls) (f : TxFrame) (rest : List TxFrame) (s : State) :
    KeptOrData k s (sendHead k i c f rest s) := by
  unfold sendHead sendBroadcast sendUnicast; dsimp only
  split <;> exact ⟨by simp, .inr ⟨_, _, by simp; exact ⟨rfl, rfl⟩⟩⟩

theorem walk_lif (k : Phase) (n : Nat) (i : Fin 16) (s : State) : KeptOrData k s (walk k n i s) := by
  induction n generalizing i s with
  | zero => exact ⟨rfl, .inl rfl⟩
  | succ n ih =>
    unfold walk; dsimp only
    (repeat' split)
    · simpa [KeptOrData] using ih (i + 1) (dropAbsent s.txe.pattern[i] (s.txe.queue s.txe.pattern[i]) s)
    · simpa [KeptOrData] using sendHead_lif k i _ _ _ (dropAbsent s.txe.pattern[i] (s.txe.queue s.txe.pattern[i]) s)
    · simpa [KeptOrData] using ih (i + 1) (dropAbsent s.txe.pattern[i] (s.txe.queue s.txe.pattern[i]) s)

theorem select_lif (k : Phase) (s : State) : KeptOrData k s (select k s) := by
  unfold select
  split
  · exact ⟨by simp [retransmit], .inr ⟨none, _, by simp [retransmit]; rfl⟩⟩
  · exact walk_lif k 16 _ s

theorem timingSound_select {s : State} (h : TimingSound s) (k : Phase) : TimingSound (select k s) := by
  obtain ⟨hr, htx⟩ := select_lif k s
  refine h.congr (by simp) (by simp) (htx.imp_right ?_) (.inl hr)
  rintro ⟨c, b, hd⟩ b' hb; rw [hd] at hb; cases hb

/-- R35: what the own roll slot can do: nothing, or a roll word of this station goes on the line. -/
theorem ownRollSlot_cases {s t : State} (ht : exec .ownRollSlot s = .next t) :
    t = s ∨ ∃ (w : RollWord) (u : State), t = transmit (.roll w) w.bytes u ∧ w.sender = finByte s.own ∧
      u.lif = s.lif ∧ u.cfg = s.cfg ∧ (u.sync = s.sync ∨ u.sync = { s.sync with leaveSent := true }) ∧
      (s.sync.state = .joining ∨ s.sync.state = .active ∨ s.sync.state = .relearn) := by
  obtain rfl := next_inj ht
  split
  · split
    · exact .inr ⟨_, _, rfl, rfl, rfl, rfl, .inl rfl, .inl ‹_›⟩
    · split
      · exact .inr ⟨_, _, rfl, rfl, rfl, rfl, .inr rfl, .inr (.inl ‹_›)⟩
      · exact .inr ⟨_, _, rfl, rfl, rfl, rfl, .inl rfl, .inr (.inl ‹_›)⟩
    · split
      · exact .inr ⟨_, _, rfl, rfl, rfl, rfl, .inr rfl, .inr (.inr ‹_›)⟩
      · exact .inr ⟨_, _, rfl, rfl, rfl, rfl, .inl rfl, .inr (.inr ‹_›)⟩
    all_goals exact .inl rfl
  · exact .inl rfl

/-- R35, R94. -/
theorem timingSound_ownRollSlot {s t : State} (h : TimingSound s) (ht : exec .ownRollSlot s = .next t) :
    TimingSound t := by
  rcases ownRollSlot_cases ht with rfl | ⟨w, u, rfl, -, hl, hc, hs, -⟩
  · exact h
  · obtain ⟨hh, hcd, hn, hd, hw, hlo, -, hr⟩ := h
    rcases hs with hs | hs <;> constructor <;> simp_all [State.own]

theorem timingSound_departAtClose {s : State} (h : TimingSound s) (a : Addr) (why : DepartReason) :
    TimingSound (departAtClose a why s) := by
  obtain ⟨hh, hcd, hn, hd, hw, hlo, hm, hr⟩ := h
  unfold departAtClose; dsimp only
  split
  · constructor <;> simp_all [State.own]
  · constructor <;> simp_all [State.own]

theorem arrive_sameLine (a : Addr) (d : Bool) (s : State) : SameLine s (arrive a d s) :=
  ⟨by simp, by simp, by simp⟩

theorem timingSound_decideOwn {s : State} (h : TimingSound s) : TimingSound (decideOwn s) := by
  have departed := timingSound_departAtClose h
  unfold decideOwn
  split
  · exact h
  split
  · split
    · split
      · exact (departed _ _).sameLine (arrive_sameLine _ _ _)
      · exact h.sameLine (arrive_sameLine _ _ _)
    · exact h
  split
  · exact h.sameLine ⟨rfl, rfl, rfl⟩
  · exact h

theorem timingSound_decidePeer {s : State} (h : TimingSound s) (a : Addr) : TimingSound (decidePeer a s) := by
  have departed := timingSound_departAtClose h
  unfold decidePeer
  split
  · split
    · exact departed _ _
    · exact h.sameLine ⟨rfl, rfl, rfl⟩
  · split
    · exact departed _ _
    split
    · exact (departed _ _).sameLine (arrive_sameLine _ _ _)
    · exact h.sameLine ⟨rfl, rfl, rfl⟩
  · split
    · exact h.sameLine (arrive_sameLine _ _ _)
    · exact h
  · exact h

theorem timingSound_decideMember {s : State} (h : TimingSound s) (a : Addr) : TimingSound (decideMember s a) := by
  unfold decideMember
  split
  · exact timingSound_decideOwn h
  · exact timingSound_decidePeer h a

/-- A property that every step of a fold keeps is kept by the fold. -/
theorem foldl_holds {α : Type} {P : State → Prop} {f : State → α → State} (h : ∀ s a, P s → P (f s a))
    (l : List α) (s : State) (hs : P s) : P (l.foldl f s) := by
  induction l generalizing s with
  | nil => exact hs
  | cons a l ih => exact ih _ (h s a hs)

theorem departAtClose_state (a : Addr) (why : DepartReason) (s : State) :
    (departAtClose a why s).sync.state = s.sync.state := by
  unfold departAtClose; dsimp only; split <;> simp

theorem decideMember_state (s : State) (a : Addr) : (decideMember s a).sync.state = s.sync.state := by
  unfold decideMember decideOwn decidePeer
  (repeat' split) <;> simp [departAtClose_state]

/-- R69: stage 1 leaves the sync state alone. -/
theorem membershipStage_state (s : State) : (membershipStage s).sync.state = s.sync.state := by
  unfold membershipStage; dsimp only
  rw [State.withRcm_sync]
  exact foldl_keeps (fun u => u.sync.state) _ decideMember_state _ _

theorem timingSound_membershipStage {s : State} (h : TimingSound s) : TimingSound (membershipStage s) := by
  have h1 : TimingSound (s.withRcm { s.rcm with disagreeing := s.rcm.tally, tally := 0 }) :=
    h.sameLine ⟨rfl, rfl, rfl⟩
  unfold membershipStage; dsimp only
  generalize hu : List.foldl decideMember _ _ = u
  have h2 : TimingSound u := by
    rw [← hu]; exact foldl_holds (P := TimingSound) (fun _ a hs => timingSound_decideMember hs a) _ _ h1
  exact h2.sameLine ⟨by simp, by simp, by simp⟩

/-- R67 to R74: behind stage 1 a close lets the station enter ACTIVE, from JOINING, or leaves SYNC alone. -/
theorem close_cases (s : State) : ∃ u, SameLine (membershipStage s) u ∧
    (close s = u ∨ s.sync.state = .joining ∧ close s = enter .active u) := by
  unfold close; dsimp only
  generalize hu : evaluateClaim _ _ = u
  refine ⟨u, by constructor <;> simp [← hu], ?_⟩
  split
  · rename_i hj
    simp only [joinDecided, Bool.and_eq_true, beq_iff_eq] at hj
    exact .inr ⟨hj.1, rfl⟩
  · exact .inl rfl

theorem timingSound_close {s : State} (h : TimingSound s) : TimingSound (close s) := by
  have h1 := timingSound_membershipStage h
  obtain ⟨u, hu, hc | ⟨hj, hc⟩⟩ := close_cases s
  · rw [hc]; exact h1.sameLine hu
  · have hst : u.sync.state = .joining := by rw [hu.sync, membershipStage_state]; exact hj
    obtain ⟨hh, hcd, hn, hd, hw, hlo, hm, hr⟩ := h1.sameLine hu
    rw [hc]; constructor <;> simp_all [SyncState.timed, SyncState.onLine]

/-- R90, R92, R94. -/
theorem timingSound_listenTimerExpiry {s t : State} (h : TimingSound s) (ht : exec .listenTimerExpiry s = .next t) :
    TimingSound t := by
  obtain rfl := next_inj ht
  have hm := h.noMarker
  split
  · split
    · obtain ⟨hh, hcd, hn, hd, hw, hlo, hmk, hr⟩ := h
      constructor <;> simp_all [State.own]
    · split
      · rename_i hs
        split
        · exact timingSound_withdrawNow _
        · refine timingSound_enterListening (s := closeEntries s) (hm ?_)
          by_contra hc
          have := (h.holder (by simpa using hc)).1
          simp_all
      · exact h
  · exact h

theorem timingSound_sendMarker {s : State} (hh : s.sync.holder = true) (ha : s.sync.state = .active)
    (hc : s.sync.cond = .running) (ho : s.sync.holderAddr = some s.own) (hv : s.sync.holderVacant = false)
    (hn : s.sync.cycleNumber.isSome = true) (hl : s.sync.lost ≤ 1) : TimingSound (sendMarker s) := by
  constructor <;> simp_all [State.own, SyncState.timed, SyncState.onLine]
  omega

theorem foundBus_sync (s : State) : (foundBus s).sync =
    { s.sync.stop with
      state := .active, cond := .running, holder := true, holderAddr := some s.own, cycleNumber := some 0#16 } := rfl

theorem takeTiming_sync (s : State) : (takeTiming s).sync =
    { s.sync with
      holder := true, holderAddr := some s.own, cycleNumber := nextNumber s.sync.cycleNumber, holderVacant := false
      lost := 0, takeoverTimer := .stopped, cond := .running } := rfl

/-- R91, R92. -/
theorem timingSound_takeoverTimerExpiry {s t : State} (h : TimingSound s)
    (ht : exec .takeoverTimerExpiry s = .next t) : TimingSound t := by
  obtain rfl := next_inj ht
  split
  · split
    · apply timingSound_sendMarker <;> simp [foundBus_sync, Sync.stop, State.own]
    · split
      · rename_i hs
        split
        · exact timingSound_withdrawNow _
        · have hn := h.number
          apply timingSound_sendMarker <;> simp_all [takeTiming_sync, State.own, nextNumber, SyncState.timed]
      · exact h
  · exact h

/-! ### Resets and START -/

theorem TimingSound.of_reset {t : State} (hs : t.sync = Sync.reset) (hl : t.lif = Lif.reset) : TimingSound t := by
  constructor <;> simp [hs, hl, Sync.reset, Lif.reset, SyncState.timed]

/-- R167: at step 7 of START. -/
theorem timingSound_leaveStart {s : State} (hs : s.sync = Sync.reset) (hl : s.lif = Lif.reset) :
    TimingSound (leaveStart s) := by
  unfold leaveStart; dsimp only
  split
  · refine timingSound_enterListening fun b => ?_
    simp [hl, Lif.reset]
  · constructor <;> simp [hs, hl, Sync.reset, Lif.reset, SyncState.timed]

theorem timingSound_finishStart {s : State} (hs : s.sync = Sync.reset) (hl : s.lif = Lif.reset) (c : Configuration)
    (src : ConfigSource) (why : Option FailReason) : TimingSound (finishStart c src why s) := by
  unfold finishStart; dsimp only
  apply timingSound_leaveStart <;> split <;> simp [hs, hl]

theorem timingSound_attemptFailed {s : State} (hs : s.sync = Sync.reset) (hl : s.lif = Lif.reset) (why : FailReason) :
    TimingSound (attemptFailed why s) := by
  unfold attemptFailed
  split
  · exact .of_reset hs hl
  · exact timingSound_finishStart hs hl _ _ _

theorem timingSound_beginAttempt {s : State} (hs : s.sync = Sync.reset) (hl : s.lif = Lif.reset) (n : Nat) :
    TimingSound (beginAttempt n s) := by
  unfold beginAttempt; dsimp only
  split
  · exact .of_reset hs hl
  · exact timingSound_attemptFailed (by simpa using hs) (by simpa using hl) _

end Sys2Proof.Machine

namespace Sys2Proof.Machine

theorem timingSound_joinLine {s : State} (h : TimingSound s) (hs : s.sync.state.onLine = false) :
    TimingSound (joinLine s) := by
  refine timingSound_enterListening (s := s.withLif { s.lif with lineFaultTimer := .running 0 }) (h.noMarker ?_)
  by_contra hc
  have := (h.holder (by simpa using hc)).1
  simp_all [SyncState.onLine]

/-- R172: a request keeps a property of the line that its rule keeps. -/
theorem takeRequest_leads {P : State → Prop} (same : ∀ s t, SameLine s t → P s → P t) (code : Byte) (ok : Bool)
    (args : List Byte) (rule : State → Result) (s : State) (hs : P s) (hr : P (rule s).state) :
    P (takeRequest code ok args rule s) := by
  rcases takeRequest_cases code ok args rule s with h | ⟨st, h⟩ | ⟨-, h⟩ <;> rw [h]
  · exact hs
  · exact same s _ ⟨rfl, rfl, rfl⟩ hs
  · exact same (rule s).state _ ⟨rfl, rfl, rfl⟩ hr

theorem timingSound_join {s t : State} (h : TimingSound s) (args : List Byte)
    (ht : exec (.join args) s = .next t) : TimingSound t := by
  obtain rfl := next_inj ht
  refine takeRequest_leads (fun _ _ hl hs => hs.sameLine hl) _ _ _ _ _ h ?_
  split
  · rename_i hs
    exact timingSound_joinLine h (by rcases hs with hs | hs <;> simp [hs, SyncState.onLine])
  · exact h

/-- R94: a withdraw waits in ACTIVE and RELEARN. -/
theorem timingSound_withdrawPending {s : State} (h : TimingSound s)
    (hs : s.sync.state = .active ∨ s.sync.state = .relearn) :
    TimingSound (s.withSync { s.sync with withdrawPending := true }) := by
  obtain ⟨hh, hcd, hn, hd, hw, hlo, hm, hr⟩ := h
  constructor <;> simp_all [State.own]

theorem timingSound_withdraw {s t : State} (h : TimingSound s) (args : List Byte)
    (ht : exec (.withdraw args) s = .next t) : TimingSound t := by
  obtain rfl := next_inj ht
  refine takeRequest_leads (fun _ _ hl hs => hs.sameLine hl) _ _ _ _ _ h ?_
  unfold withdrawRule
  split <;> rename_i hs
  · exact timingSound_withdrawPending h (.inl hs)
  · exact timingSound_withdrawPending h (.inr hs)
  · exact h
  · exact timingSound_withdrawNow s
  · exact timingSound_withdrawNow s
  all_goals exact h

theorem timingSound_transactionEnd {s t : State} (h : TimingSound s) (n : Nat)
    (ht : exec (.transactionEnd n) s = .next t) : TimingSound t := by
  obtain rfl := next_inj ht
  (repeat' split)
  · exact h
  · exact .of_reset rfl rfl
  · exact timingSound_recordFault (s := portIdle s) (h.sameLine ⟨rfl, rfl, rfl⟩) _ _
  · exact h.sameLine ⟨rfl, rfl, rfl⟩

theorem timingSound_lineFaultTimerExpiry {s t : State} (h : TimingSound s) (g : Bool)
    (ht : exec (.lineFaultTimerExpiry g) s = .next t) : TimingSound t := by
  obtain rfl := next_inj ht
  (repeat' split)
  · exact timingSound_recordFault h _ _
  · exact h
  · exact timingSound_fatal (s := s.withLif { s.lif with lineFaultTimer := .stopped })
      (h.congr rfl rfl (.inl rfl) (.inl rfl)) _ _
  · exact h

theorem timingSound_markerSlotEnd {s t : State} (h : TimingSound s) (g : Bool)
    (ht : exec (.markerSlotEnd g) s = .next t) : TimingSound t := by
  have h1 := timingSound_endReception h
  obtain rfl := next_inj ht
  split
  · split
    · exact timingSound_recordFault h _ _
    · exact h
  · dsimp only
    split
    · rename_i hc
      obtain ⟨hst, hh, -⟩ := hc
      have h2 : TimingSound ((endReception s).withSync { (endReception s).sync with markerDone := true }) := by
        obtain ⟨a, b, c, d, e, f, g', i⟩ := h1
        exact ⟨a, b, c, d, e, f, g', i⟩
      exact timingSound_markerLost h2 hst hh
    · exact h1

/-- The commands of START find the blocks at their reset values. -/
theorem timingSound_start {s t : State} {i : Instr} (h : TimingSound s) (hst : StartSound s)
    (hi : (∃ p n, i = .start p n) ∨ (∃ r, i = .readAttemptEnd r) ∨ (∃ n, i = .sclHoldTimeout n) ∨
      ∃ n, i = .retryWaitExpiry n) (ht : exec i s = .next t) : TimingSound t := by
  have reset : s.cfg.step ≠ .done → s.sync = Sync.reset ∧ s.lif = Lif.reset := fun hd =>
    ⟨(hst hd).2.1, (hst hd).1⟩
  rcases hi with ⟨p, n, rfl⟩ | ⟨r, rfl⟩ | ⟨n, rfl⟩ | ⟨n, rfl⟩ <;> obtain rfl := next_inj ht <;> split
  · rename_i hs
    obtain ⟨hy, hl⟩ := reset (by rcases hs with hs | hs <;> simp [hs])
    dsimp only
    split
    · exact timingSound_beginAttempt (by exact hy) (by exact hl) n
    · exact timingSound_finishStart (by exact hy) (by exact hl) _ _ _
  · exact h
  · rename_i hs
    obtain ⟨hy, hl⟩ := reset (by simp [hs])
    dsimp only
    (repeat' split)
    · exact timingSound_finishStart (by exact hy) (by exact hl) _ _ _
    · exact timingSound_finishStart (by exact hy) (by exact hl) _ _ _
    · exact timingSound_attemptFailed (by exact hy) (by exact hl) _
  · exact h
  · rename_i hs
    obtain ⟨hy, hl⟩ := reset (by simp [hs])
    exact timingSound_attemptFailed (by exact hy) (by exact hl) _
  · exact h
  · rename_i hs
    obtain ⟨hy, hl⟩ := reset (by simp [hs])
    exact timingSound_beginAttempt (by exact hy) (by exact hl) n
  · exact h

theorem timingSound_rollSlotDamaged {s t : State} (h : TimingSound s) (k : Addr) (g : Bool)
    (ht : exec (.rollSlotDamaged k g) s = .next t) : TimingSound t := by
  have h1 := timingSound_endReception h
  obtain rfl := next_inj ht
  dsimp only
  (repeat' split)
  · exact timingSound_recordFault h _ _
  · exact h
  · exact timingSound_recordFault (timingSound_rollHad h1 k) _ _
  · exact h1

theorem timingSound_dataPhaseDamaged {s t : State} (h : TimingSound s) (k : Phase) (g : Bool)
    (ht : exec (.dataPhaseDamaged k g) s = .next t) : TimingSound t := by
  have h1 := timingSound_endReception h
  obtain rfl := next_inj ht
  dsimp only
  (repeat' split)
  · exact timingSound_recordFault h _ _
  · exact h
  · exact (timingSound_phaseHad h1 k).sameLine (actOnPhase_sameLine k _ _)
  · exact h1

theorem awaits_onLine {s : State} {had : Bool} (h : s.awaits had = true) : s.sync.state.onLine = true := by
  unfold State.awaits at h; simp_all

/-- Every command keeps the timing sound. -/
theorem exec_timingSound (i : Instr) (s t : State) (hst : StartSound s) (h : TimingSound s)
    (ht : exec i s = .next t) : TimingSound t := by
  cases i with
  | powerOnReset | pinReset => obtain rfl := next_inj ht; exact .of_reset rfl rfl
  | start p n => exact timingSound_start h hst (.inl ⟨p, n, rfl⟩) ht
  | readAttemptEnd r => exact timingSound_start h hst (.inr (.inl ⟨r, rfl⟩)) ht
  | sclHoldTimeout n => exact timingSound_start h hst (.inr (.inr (.inl ⟨n, rfl⟩))) ht
  | retryWaitExpiry n => exact timingSound_start h hst (.inr (.inr (.inr ⟨n, rfl⟩))) ht
  | transactionEnd n => exact timingSound_transactionEnd h n ht
  | join args => exact timingSound_join h args ht
  | withdraw args => exact timingSound_withdraw h args ht
  | markerReceived b o p g =>
    obtain rfl := next_inj ht
    exact hear_leads h (timingSound_begins h b) (timingSound_takeMarkerBytes h o g)
      (timingSound_takeMarkerBytes (timingSound_endReception h) o g)
  | markerSlotEnd g => exact timingSound_markerSlotEnd h g ht
  | rollWordReceived k b p g =>
    obtain rfl := next_inj ht
    exact hear_leads h (fun hr => timingSound_begins h b (awaits_onLine hr)) (timingSound_takeRollBytes h k g)
      (timingSound_takeRollBytes (timingSound_endReception h) k g)
  | rollSlotDamaged k g => exact timingSound_rollSlotDamaged h k g ht
  | dataFrameReceived k b p g =>
    obtain rfl := next_inj ht
    exact hear_leads h (fun hr => timingSound_begins h b (awaits_onLine hr)) (timingSound_takeDataBytes h k g)
      (timingSound_takeDataBytes (timingSound_endReception h) k g)
  | dataPhaseDamaged k g => exact timingSound_dataPhaseDamaged h k g ht
  | ownMarkerReadBack r => exact timingSound_ownMarkerReadBack h r ht
  | ownRollReadBack r => exact timingSound_ownRollReadBack h r ht
  | ownDataReadBack r => exact timingSound_ownDataReadBack h r ht
  | cycleStart => exact timingSound_cycleStart h ht
  | ownRollSlot => exact timingSound_ownRollSlot h ht
  | leaveSlotEnd =>
    obtain rfl := next_inj ht
    split
    · exact timingSound_withdrawNow s
    · exact h
  | rollCallClose =>
    obtain rfl := next_inj ht
    split
    · exact timingSound_close h
    · exact h
  | dataPhase k =>
    obtain rfl := next_inj ht
    split
    · exact timingSound_select h k
    · exact h
  | listenTimerExpiry => exact timingSound_listenTimerExpiry h ht
  | takeoverTimerExpiry => exact timingSound_takeoverTimerExpiry h ht
  | lineFaultTimerExpiry g => exact timingSound_lineFaultTimerExpiry h g ht
  | _ => exact h.sameLine (exec_sameLine rfl ht)

/-- Settles O53: each command keeps the timing sound, by what it does to SYNC and to the record of the line. -/
theorem theTimingStaysSound : Obligations.TheTimingStaysSound := by
  intro s t hst h
  refine step_leads (P := fun s => StartSound s ∧ TimingSound s) (fun _ hs => hs.2) (fun _ _ hs => ?_)
    (fun _ _ hs => ?_) (fun i s t hs => exec_timingSound i s t hs.1 hs.2) s t ⟨hst, h⟩
  · exact ⟨hs.1, hs.2.sameLine ⟨rfl, rfl, rfl⟩⟩
  · exact ⟨hs.1, hs.2.sameLine ⟨rfl, rfl, rfl⟩⟩

end Sys2Proof.Machine

namespace Sys2Proof.Machine

/-! ## What a command leaves on the line -/

/-- The record of the line stands or is gone, and the station has not withdrawn; or LIF is released. -/
def LineEnds (s t : State) : Prop :=
  ((t.lif.tx = s.lif.tx ∨ t.lif.tx = none) ∧ (t.sync.state = .withdrawn → s.sync.state = .withdrawn)) ∨
    t.lif = Lif.reset

/-- Nothing goes on the line where the record stands and SYNC does not change. -/
theorem LineEnds.of_sync {s t : State} (htx : t.lif.tx = s.lif.tx ∨ t.lif.tx = none) (hs : t.sync = s.sync) :
    LineEnds s t := .inl ⟨htx, fun h => by rw [← hs]; exact h⟩

/-- Nothing goes on the line where the record stands and the new sync state is another one than WITHDRAWN. -/
theorem LineEnds.of_state {s t : State} (htx : t.lif.tx = s.lif.tx ∨ t.lif.tx = none)
    (hs : t.sync.state ≠ .withdrawn) : LineEnds s t := .inl ⟨htx, fun h => absurd h hs⟩

theorem LineEnds.refl (s : State) : LineEnds s s := .of_sync (.inl rfl) rfl

theorem SameLine.ends {s t : State} (h : SameLine s t) : LineEnds s t := .of_sync (.inl (by rw [h.lif])) h.sync

theorem LineEnds.kept {s t u : State} (h : LineEnds s t) (h' : LineKept t u) : LineEnds s u := by
  rcases h' with ⟨hl', hw'⟩ | hr'
  · rcases h with ⟨htx, hw⟩ | hr
    · exact .inl ⟨by rw [hl']; exact htx, fun hu => hw (hw' hu)⟩
    · exact .inr (hl'.trans hr)
  · exact .inr hr'

theorem LineKept.ends {s t : State} (h : LineKept s t) : LineEnds s t := (LineEnds.refl s).kept h

theorem rollHad_ends (k : Addr) (s : State) : LineEnds s (rollHad k s) := .of_sync (.inl rfl) rfl
theorem phaseHad_ends (k : Phase) (s : State) : LineEnds s (phaseHad k s) := .of_sync (.inl rfl) rfl

/-- What the bytes of a reception do to the line is done by the taking of them, whether or not it came in parts. -/
theorem hear_ends {part : Part} {b : List Byte} {running : Bool} {take : List Byte → State → State} {s : State}
    (h : ∀ bytes u, LineEnds u (take bytes u)) : LineEnds s (hear part b running take s) := by
  refine hear_leads (.refl s) (fun _ => .of_sync (.inl rfl) rfl) (fun bytes => h bytes s) fun bytes => ?_
  exact h bytes (endReception s)

theorem takeMarker_ends (m : Marker) (o : Int) (restart : Bool) (s : State) :
    LineEnds s (takeMarker m o restart s) := by
  refine LineEnds.kept (.inl ⟨?_, fun hw => ?_⟩) (takeMarker_lineKept m o restart s)
  · rw [markerTiming_lif]; cases restart <;> simp
  · rw [markerTiming_sync] at hw; exact hw

theorem handleMarker_ends (m : Marker) (o : Int) (s : State) : LineEnds s (handleMarker m o s) := by
  have yields : LineEnds s (takeMarker m o true (dropHolder s)) := by
    have h := takeMarker_ends m o true (dropHolder s)
    simpa [LineEnds, dropHolder_sync] using h
  unfold handleMarker
  (repeat' split)
  · exact .refl s
  · exact (fatal_lineKept _ _ s).ends
  · exact takeMarker_ends m o true s
  · exact yields
  · exact .refl s
  · exact takeMarker_ends m o true s
  · exact takeMarker_ends m o false s
  · exact .refl s

theorem takeMarkerBytes_ends (o : Int) (g : Bool) (b : List Byte) (s : State) :
    LineEnds s (takeMarkerBytes o g b s) := by
  unfold takeMarkerBytes
  (repeat' split)
  · exact .refl s
  · exact (recordFault_sameLine _ _ s).ends
  · exact .refl s
  · exact handleMarker_ends _ o s

theorem checkRollWord_lineKept (k : Addr) (w : RollWord) (s : State) : LineKept s (checkRollWord k w s) := by
  unfold checkRollWord
  (repeat' split)
  · exact (recordFault_sameLine _ _ s).kept
  · exact fatal_lineKept _ _ s
  · exact (recordFault_sameLine _ _ s).kept
  · exact (recordFault_sameLine _ _ s).kept
  · exact (acceptRollWord_sameLine k w s).kept

theorem takeRollBytes_ends (k : Addr) (g : Bool) (b : List Byte) (s : State) : LineEnds s (takeRollBytes k g b s) := by
  unfold takeRollBytes
  (repeat' split)
  · exact (recordFault_sameLine _ _ s).ends
  · exact (reportRollWord_sameLine k _ s).ends
  · exact .refl s
  · exact (rollHad_ends k s).kept (recordFault_sameLine _ _ _).kept
  · exact (rollHad_ends k s).kept (checkRollWord_lineKept k _ _)
  · exact .refl s

theorem takeDataBytes_ends (k : Phase) (g : Bool) (b : List Byte) (s : State) :
    LineEnds s (takeDataBytes k g b s) := by
  unfold takeDataBytes
  (repeat' split)
  · exact (recordFault_sameLine _ _ s).ends
  · exact (reportDataFrame_sameLine k _ s).ends
  · exact .refl s
  · exact (phaseHad_ends k s).kept (actOnPhase_sameLine k _ _).kept
  · exact .refl s

theorem suspend_ends (s : State) : LineEnds s (suspend s) := by
  refine .inl ⟨.inr (by simp), fun h => ?_⟩
  rw [suspend_sync] at h; split at h <;> simpa using h

theorem LineEnds.suspended {s u : State} (hs : u.sync.state = s.sync.state) : LineEnds s (suspend u) := by
  rcases suspend_ends u with ⟨-, h⟩ | h
  · exact .inl ⟨.inr (by simp), fun hw => hs ▸ h hw⟩
  · exact .inr h

theorem markerSlotEnd_ends {s t : State} (g : Bool) (ht : exec (.markerSlotEnd g) s = .next t) : LineEnds s t := by
  obtain rfl := next_inj ht
  dsimp only
  (repeat' split)
  · exact (recordFault_sameLine _ _ s).ends
  · exact .refl s
  · unfold markerLost; dsimp only
    split
    · exact .inl ⟨.inl (by simp), by simp⟩
    · exact .suspended (by simp)
  · exact .of_sync (.inl rfl) rfl

theorem ownMarkerReadBack_ends {s t : State} (r : Reception) (ht : exec (.ownMarkerReadBack r) s = .next t) :
    LineEnds s t := by
  obtain rfl := next_inj ht
  split
  · dsimp only
    (repeat' split)
    · exact .inl ⟨.inr (by simp), by simp⟩
    · exact .inl ⟨.inr (by simp), by simp⟩
    · exact .suspended (by simp [dropHolder_sync])
  · exact .refl s

theorem rollCollision_lineKept (s : State) : LineKept s (rollCollision s) := by
  unfold rollCollision; dsimp only
  split
  · exact SameLine.kept ⟨by simp, by simp, by simp⟩
  · exact (SameLine.kept (t := s.withRcm _) ⟨by simp, by simp, by simp⟩).trans (fatal_lineKept _ _ _)

theorem ownRollReadBack_ends {s t : State} (r : Reception) (ht : exec (.ownRollReadBack r) s = .next t) :
    LineEnds s t := by
  have h1 : LineEnds s (rollHad s.own (cutTransmission s)) := .of_sync (.inr rfl) rfl
  obtain rfl := next_inj ht
  split
  · dsimp only
    (repeat' split)
    · exact h1
    · exact h1.kept (SameLine.kept ⟨by simp, by simp, by simp⟩)
    · exact h1.kept (fatal_lineKept _ _ _)
    · exact h1.kept (rollCollision_lineKept _)
  · exact .refl s

theorem phaseCollision_lineKept (k : Phase) (s : State) : LineKept s (phaseCollision k s) := by
  have h1 := (recordFault_sameLine .txCollision (.phase k) s).kept
  unfold phaseCollision; dsimp only
  (repeat' split)
  · exact h1
  · exact h1.trans (SameLine.kept ⟨by simp, by simp, by simp⟩)
  · exact h1.trans (degradeToRelearn_lineKept _ _ _)

theorem ownDataReadBack_ends {s t : State} (r : Reception) (ht : exec (.ownDataReadBack r) s = .next t) :
    LineEnds s t := by
  obtain rfl := next_inj ht
  split
  · rename_i k bcast sent _
    have h1 : LineEnds s (phaseHad k (cutTransmission s)) := .of_sync (.inr rfl) rfl
    have marked : ∀ u, SameLine (phaseHad k (cutTransmission s)) u →
        LineEnds s (if readBackIntact sent r then phaseClean u else phaseCollision k u) := by
      intro u hl
      split
      · exact (h1.kept hl.kept).kept (phaseClean_sameLine u).kept
      · exact (h1.kept hl.kept).kept (phaseCollision_lineKept k u)
    cases bcast with
    | none => exact marked _ (.refl _)
    | some c => exact marked _ (finishBroadcast_sameLine _ _ _)
  · exact .refl s

/-! ### START, requests and resets -/

theorem enterListening_ends (s : State) : LineEnds s (enterListening s) :=
  .of_state (.inl (by simp)) (by simp [enterListening_sync])

theorem joinLine_ends (s : State) : LineEnds s (joinLine s) :=
  .of_state (.inl (by simp [joinLine])) (by simp [joinLine, enterListening_sync])

theorem leaveStart_ends (s : State) : LineEnds s (leaveStart s) := by
  unfold leaveStart; dsimp only
  split
  · exact .of_state (.inl (by simp [joinLine])) (by simp [joinLine, enterListening_sync])
  · exact .of_state (.inl rfl) (by simp)

theorem LineEnds.after {s t u : State} (hl : t.lif = s.lif) (hs : t.sync = s.sync) (h : LineEnds t u) :
    LineEnds s u := by
  simpa only [LineEnds, hl, hs] using h

theorem finishStart_ends (c : Configuration) (src : ConfigSource) (why : Option FailReason) (s : State) :
    LineEnds s (finishStart c src why s) := by
  unfold finishStart; dsimp only
  split <;> exact .after (by simp) (by simp) (leaveStart_ends _)

theorem attemptFailed_ends (why : FailReason) (s : State) : LineEnds s (attemptFailed why s) := by
  unfold attemptFailed
  split
  · exact .of_sync (.inl rfl) rfl
  · exact finishStart_ends _ _ _ s

theorem beginAttempt_ends (n : Nat) (s : State) : LineEnds s (beginAttempt n s) := by
  unfold beginAttempt; dsimp only
  split
  · exact .of_sync (.inl rfl) rfl
  · exact .after (by simp) (by simp) (attemptFailed_ends _ _)

theorem start_ends {s t : State} (p : Straps) (n : Nat) (ht : exec (.start p n) s = .next t) : LineEnds s t := by
  obtain rfl := next_inj ht
  dsimp only
  (repeat' split)
  · exact .after (by simp) (by simp) (beginAttempt_ends n _)
  · exact .after (by simp) (by simp) (finishStart_ends _ _ _ _)
  · exact .refl s

theorem readAttemptEnd_ends {s t : State} (r : ReadAttempt) (ht : exec (.readAttemptEnd r) s = .next t) :
    LineEnds s t := by
  obtain rfl := next_inj ht
  dsimp only
  (repeat' split)
  · exact .after (by simp) (by simp) (finishStart_ends _ _ _ _)
  · exact .after (by simp) (by simp) (finishStart_ends _ _ _ _)
  · exact .after (by simp) (by simp) (attemptFailed_ends _ _)
  · exact .refl s

theorem transactionEnd_ends {s t : State} (n : Nat) (ht : exec (.transactionEnd n) s = .next t) : LineEnds s t := by
  obtain rfl := next_inj ht
  (repeat' split)
  · exact .refl s
  · exact .inr rfl
  · exact .of_sync (.inl (by simp)) (by simp)
  · exact .of_sync (.inl (by simp)) (by simp)

theorem request_ends (code : Byte) (ok : Bool) (args : List Byte) (rule : State → Result) (s : State)
    (h : LineEnds s (rule s).state) : LineEnds s (takeRequest code ok args rule s) :=
  takeRequest_leads (P := LineEnds s) (fun _ _ hl hs => hs.kept hl.kept) _ _ _ _ s (.refl s) h

theorem withdrawRule_ends (s : State) : LineEnds s (withdrawRule s).state := by
  unfold withdrawRule
  split
  · exact .of_state (.inl rfl) (by simp_all [accept])
  · exact .of_state (.inl rfl) (by simp_all [accept])
  · exact .refl s
  · exact (withdrawNow_lineKept s).ends
  · exact (withdrawNow_lineKept s).ends
  all_goals exact .refl s

/-! ### Cycle events and timers -/

/-- What goes on the line is a marker of the holder, a roll word in the own slot or a data frame in an owned phase. -/
def Sends (i : Instr) (s t : State) (x : TxRecord) : Prop :=
  match x.frame with
  | .marker => t.sync.holder = true ∧ t.sync.state.timed = true
  | .roll w => i = .ownRollSlot ∧ w.sender = finByte s.own ∧
      (s.sync.state = .joining ∨ s.sync.state = .active ∨ s.sync.state = .relearn)
  | .data k _ => i = .dataPhase k ∧ s.sync.state = .active ∧ s.ptu.table[k] = .owned s.own

/-- A station that sends stays in a timed state. -/
def Sent (i : Instr) (s t : State) : Prop :=
  t.sync.state.timed = true ∧ ∃ x, t.lif.tx = some x ∧ Sends i s t x

theorem sendMarker_sent {s u : State} {i : Instr} (hh : u.sync.holder = true) (ht : u.sync.state.timed = true) :
    Sent i s (sendMarker u) := ⟨ht, _, rfl, hh, ht⟩

theorem cycleStart_line {s t : State} (ht : exec .cycleStart s = .next t) :
    LineEnds s t ∨ Sent .cycleStart s t := by
  obtain rfl := next_inj ht
  split
  · rename_i hst
    have htimed : s.sync.state.timed = true := by simp_all [State.slotTiming]
    dsimp only
    (repeat' split)
    · exact .inl (.suspended (by simp))
    · rename_i hh
      exact .inr (sendMarker_sent hh (by simpa using htimed))
    · exact .inl (.inl ⟨.inl (by simp), by simp⟩)
  · exact .inl (.refl s)

theorem takeoverTimerExpiry_line {s t : State} (ht : exec .takeoverTimerExpiry s = .next t) :
    LineEnds s t ∨ Sent .takeoverTimerExpiry s t := by
  obtain rfl := next_inj ht
  (repeat' split)
  · exact .inr (sendMarker_sent (by simp [foundBus_sync]) (by simp [foundBus_sync, SyncState.timed]))
  · exact .inl (withdrawNow_lineKept s).ends
  · rename_i hs _
    exact .inr (sendMarker_sent (by simp [takeTiming_sync]) (by simp [takeTiming_sync, hs.1, SyncState.timed]))
  · exact .inl (.refl s)
  · exact .inl (.refl s)

theorem ownRollSlot_line {s t : State} (ht : exec .ownRollSlot s = .next t) :
    LineEnds s t ∨ Sent .ownRollSlot s t := by
  rcases ownRollSlot_cases ht with rfl | ⟨w, u, rfl, hw, -, -, hs, hst⟩
  · exact .inl (.refl _)
  · refine .inr ⟨?_, _, rfl, rfl, hw, hst⟩
    rcases hst with hst | hst | hst <;> rcases hs with hs | hs <;> simp [hs, hst, SyncState.timed]

theorem owner_eq_some {e : Entry} {a : Addr} : e.owner = some a ↔ e = .owned a := by
  cases e <;> simp [Entry.owner]

theorem dataPhase_line {s t : State} (k : Phase) (ht : exec (.dataPhase k) s = .next t) :
    LineEnds s t ∨ Sent (.dataPhase k) s t := by
  obtain rfl := next_inj ht
  split
  · rename_i hs
    obtain ⟨ha, -, ho⟩ := hs
    rcases (select_lif k s).2 with h | ⟨c, b, h⟩
    · exact .inl (.of_sync (.inl h) (by simp))
    · exact .inr ⟨by simp [ha, SyncState.timed], _, h, rfl, ha, owner_eq_some.mp ho⟩
  · exact .inl (.refl s)

theorem close_lineKept (s : State) : LineKept s (close s) := by
  refine .inl ⟨by simp, ?_⟩
  obtain ⟨u, hu, hc | ⟨-, hc⟩⟩ := close_cases s <;> rw [hc]
  · rw [hu.sync, membershipStage_state]; exact id
  · simp

theorem listenTimerExpiry_ends {s t : State} (ht : exec .listenTimerExpiry s = .next t) : LineEnds s t := by
  obtain rfl := next_inj ht
  (repeat' split)
  · exact .inl ⟨.inl rfl, id⟩
  · exact (withdrawNow_lineKept s).ends
  · exact .after (by simp) (by simp) (enterListening_ends (closeEntries s))
  · exact .refl s
  · exact .refl s

theorem lineFaultTimerExpiry_ends {s t : State} (g : Bool) (ht : exec (.lineFaultTimerExpiry g) s = .next t) :
    LineEnds s t := by
  obtain rfl := next_inj ht
  (repeat' split)
  · exact (recordFault_sameLine _ _ s).ends
  · exact .refl s
  · exact LineEnds.kept (t := s.withLif { s.lif with lineFaultTimer := .stopped }) (.of_sync (.inl rfl) rfl)
      (fatal_lineKept _ _ _)
  · exact .refl s

theorem rollSlotDamaged_ends {s t : State} (k : Addr) (g : Bool) (ht : exec (.rollSlotDamaged k g) s = .next t) :
    LineEnds s t := by
  obtain rfl := next_inj ht
  dsimp only
  (repeat' split)
  · exact (recordFault_sameLine _ _ s).ends
  · exact .refl s
  · exact .of_sync (.inl (by simp)) (by simp)
  · exact .of_sync (.inl (by simp)) (by simp)

theorem dataPhaseDamaged_ends {s t : State} (k : Phase) (g : Bool) (ht : exec (.dataPhaseDamaged k g) s = .next t) :
    LineEnds s t := by
  obtain rfl := next_inj ht
  dsimp only
  (repeat' split)
  · exact (recordFault_sameLine _ _ s).ends
  · exact .refl s
  · exact .of_sync (.inl (by simp)) (by simp)
  · exact .of_sync (.inl (by simp)) (by simp)

/-- What any command does to the line: it leaves the record, or ends it, or sends. -/
theorem exec_line {i : Instr} {s t : State} (ht : exec i s = .next t) : LineEnds s t ∨ Sent i s t := by
  cases i with
  | cycleStart => exact cycleStart_line ht
  | takeoverTimerExpiry => exact takeoverTimerExpiry_line ht
  | ownRollSlot => exact ownRollSlot_line ht
  | dataPhase k => exact dataPhase_line k ht
  | powerOnReset | pinReset => obtain rfl := next_inj ht; exact .inl (.inr rfl)
  | start p n => exact .inl (start_ends p n ht)
  | readAttemptEnd r => exact .inl (readAttemptEnd_ends r ht)
  | sclHoldTimeout n =>
    obtain rfl := next_inj ht
    split
    · exact .inl (.after (by simp) (by simp) (attemptFailed_ends _ _))
    · exact .inl (.refl s)
  | retryWaitExpiry n =>
    obtain rfl := next_inj ht
    split
    · exact .inl (beginAttempt_ends n s)
    · exact .inl (.refl s)
  | transactionEnd n => exact .inl (transactionEnd_ends n ht)
  | join args =>
    obtain rfl := next_inj ht
    refine .inl (request_ends _ _ _ _ s ?_)
    split
    · exact joinLine_ends s
    · exact .refl s
  | withdraw args => obtain rfl := next_inj ht; exact .inl (request_ends _ _ _ _ s (withdrawRule_ends s))
  | markerReceived b o p g => obtain rfl := next_inj ht; exact .inl (hear_ends (takeMarkerBytes_ends o g))
  | markerSlotEnd g => exact .inl (markerSlotEnd_ends g ht)
  | rollWordReceived k b p g => obtain rfl := next_inj ht; exact .inl (hear_ends (takeRollBytes_ends k g))
  | rollSlotDamaged k g => exact .inl (rollSlotDamaged_ends k g ht)
  | dataFrameReceived k b p g => obtain rfl := next_inj ht; exact .inl (hear_ends (takeDataBytes_ends k g))
  | dataPhaseDamaged k g => exact .inl (dataPhaseDamaged_ends k g ht)
  | ownMarkerReadBack r => exact .inl (ownMarkerReadBack_ends r ht)
  | ownRollReadBack r => exact .inl (ownRollReadBack_ends r ht)
  | ownDataReadBack r => exact .inl (ownDataReadBack_ends r ht)
  | leaveSlotEnd =>
    obtain rfl := next_inj ht
    split
    · exact .inl (withdrawNow_lineKept s).ends
    · exact .inl (.refl s)
  | rollCallClose =>
    obtain rfl := next_inj ht
    split
    · exact .inl (close_lineKept s).ends
    · exact .inl (.refl s)
  | listenTimerExpiry => exact .inl (listenTimerExpiry_ends ht)
  | lineFaultTimerExpiry g => exact .inl (lineFaultTimerExpiry_ends g ht)
  | _ => exact .inl (exec_sameLine rfl ht).ends

/-- Settles O60: a record that is new is one that the command sent. -/
theorem aStationDrivesOnlyItsOwnSlots : Obligations.AStationDrivesOnlyItsOwnSlots := by
  intro i s t x ht hx hnew
  rcases exec_line ht with (⟨htx | htx, -⟩ | hr) | ⟨-, y, hy, hsends⟩
  · exact absurd (htx ▸ hx) hnew
  · rw [htx] at hx; cases hx
  · rw [hr] at hx; cases hx
  · obtain rfl : x = y := by rw [hy] at hx; exact (Option.some.inj hx).symm
    exact hsends

/-- Entry to WITHDRAWN leaves LIF at its reset values, whatever the command. -/
theorem exec_withdrawn_lif {i : Instr} {s t : State} (ht : exec i s = .next t) (hs : s.sync.state ≠ .withdrawn)
    (hw : t.sync.state = .withdrawn) : t.lif = Lif.reset := by
  rcases exec_line ht with (⟨-, h⟩ | hr) | ⟨htimed, -⟩
  · exact absurd (h hw) hs
  · exact hr
  · simp [hw, SyncState.timed] at htimed

end Sys2Proof.Machine

namespace Sys2Proof.Machine

/-! ## Receptions in parts (R5, R13) -/

theorem hear_ends_none {b : List Byte} {running : Bool} {take : List Byte → State → State} {s : State}
    (h : s.lif.rx = none) : hear .ends b running take s = s := by
  simp [hear, h]

theorem hear_ends_some {b first : List Byte} {running : Bool} {take : List Byte → State → State} {s : State}
    (h : s.lif.rx = some first) :
    hear .ends b running take s = take (first ++ b) { s with lif := { s.lif with rx := none } } := by
  simp [hear, h]; rfl

theorem slotTiming_timed {s : State} (h : s.slotTiming = true) : s.sync.state.timed = true := by
  simp_all [State.slotTiming]

/-- At the instant of a withdrawal only a withdrawn station can be. -/
theorem atWithdrawal_of_timed {s : State} (h : s.sync.state.timed = true) (g : Bool) : s.atWithdrawal g = none := by
  unfold State.atWithdrawal
  rw [if_neg]
  rintro ⟨-, hw⟩; rw [hw] at h; cases h

@[simp] theorem atWithdrawal_alone (s : State) : s.atWithdrawal false = none := by simp [State.atWithdrawal]

theorem atWithdrawal_none {s : State} (h : s.sync.state ≠ .withdrawn ∨ s.sync.left = none) (g : Bool) :
    s.atWithdrawal g = none := by
  unfold State.atWithdrawal
  split
  · rename_i hw
    rcases h with h | h
    · exact absurd hw.2 h
    · exact h
  · rfl

theorem awaits_eq {s : State} {had : Bool} (hl : s.sync.state.onLine = true) (h : s.slotTiming = false ∨ had = false) :
    s.awaits had = true := by
  rcases h with h | h <;> simp [State.awaits, hl, h]

theorem awaits_had {s : State} {had : Bool} (ht : s.slotTiming = true) (h : had = true) : s.awaits had = false := by
  simp [State.awaits, ht, h]

theorem awaits_offLine {s : State} {had : Bool} (hl : s.sync.state.onLine = false) : s.awaits had = false := by
  simp [State.awaits, hl]

theorem begins_on_line (b : List Byte) (o : Int) (k : Addr) (p : Phase) (g : Bool) (s : State)
    (hl : s.sync.state.onLine = true) :
    exec (.markerReceived b o .begins g) s = .next { s with lif := { s.lif with rx := some b } } ∧
    (s.slotTiming = false ∨ s.lif.rollDone[k] = false →
      exec (.rollWordReceived k b .begins g) s = .next { s with lif := { s.lif with rx := some b } }) ∧
    (s.slotTiming = false ∨ s.lif.phaseDone[p] = false →
      exec (.dataFrameReceived p b .begins g) s = .next { s with lif := { s.lif with rx := some b } }) := by
  refine ⟨?_, fun h => ?_, fun h => ?_⟩
  · simp only [exec, execMarkerReceived, hl]; rfl
  · simp only [exec, execRollWordReceived, awaits_eq hl h]; rfl
  · simp only [exec, execDataFrameReceived, awaits_eq hl h]; rfl

theorem second_in_roll_slot (b : List Byte) (k : Addr) (g : Bool) (s : State) (ht : s.slotTiming = true)
    (hd : s.lif.rollDone[k] = true) :
    exec (.rollWordReceived k b .begins g) s = .next s ∧ exec (.rollWordReceived k b .whole g) s = .next s ∧
    exec (.rollSlotDamaged k g) s = .next { s with lif := { s.lif with rx := none } } := by
  have hw := atWithdrawal_of_timed (slotTiming_timed ht) g
  have hd' : s.lif.rollDone[k.val] = true := hd
  refine ⟨?_, ?_, ?_⟩
  · simp only [exec, execRollWordReceived, awaits_had ht hd]; rfl
  · simp [exec, execRollWordReceived, hear, takeRollBytes, hw, heardAsPeer, hd']
  · simp [exec, execRollSlotDamaged, hw, heardAsPeer, hd']; rfl

theorem second_in_data_phase (b : List Byte) (p : Phase) (g : Bool) (s : State) (ht : s.slotTiming = true)
    (hd : s.lif.phaseDone[p] = true) :
    exec (.dataFrameReceived p b .begins g) s = .next s ∧ exec (.dataFrameReceived p b .whole g) s = .next s ∧
    exec (.dataPhaseDamaged p g) s = .next { s with lif := { s.lif with rx := none } } := by
  have hw := atWithdrawal_of_timed (slotTiming_timed ht) g
  have hd' : s.lif.phaseDone[p.val] = true := hd
  refine ⟨?_, ?_, ?_⟩
  · simp only [exec, execDataFrameReceived, awaits_had ht hd]; rfl
  · simp [exec, execDataFrameReceived, hear, takeDataBytes, hw, handedToRxe, hd']
  · simp [exec, execDataPhaseDamaged, hw, handedToRxe, hd']; rfl

/-- Two ways of taking a reception that agree where SYNC stands as it does agree behind LIF. -/
theorem hear_congr {part : Part} {b : List Byte} {running : Bool} {take take' : List Byte → State → State} {s : State}
    (h : ∀ bytes u, u.sync = s.sync → take bytes u = take' bytes u) :
    hear part b running take s = hear part b running take' s := by
  cases part with
  | whole => exact h b s rfl
  | begins => rfl
  | ends =>
    cases hr : s.lif.rx with
    | none => rw [hear_ends_none hr, hear_ends_none hr]
    | some first => rw [hear_ends_some hr, hear_ends_some hr]; exact h _ _ rfl

/-- R157: the operand `together` says something at a withdrawal only. -/
theorem together_without_withdrawal (b : List Byte) (o : Int) (k : Addr) (p : Phase) (q : Part) (s : State)
    (h : s.sync.state ≠ .withdrawn ∨ s.sync.left = none) :
    exec (.markerReceived b o q true) s = exec (.markerReceived b o q) s ∧
    exec (.markerSlotEnd true) s = exec .markerSlotEnd s ∧
    exec (.rollWordReceived k b q true) s = exec (.rollWordReceived k b q) s ∧
    exec (.rollSlotDamaged k true) s = exec (.rollSlotDamaged k) s ∧
    exec (.dataFrameReceived p b q true) s = exec (.dataFrameReceived p b q) s ∧
    exec (.dataPhaseDamaged p true) s = exec (.dataPhaseDamaged p) s ∧
    exec (.lineFaultTimerExpiry true) s = exec .lineFaultTimerExpiry s := by
  have hw : ∀ u : State, u.sync = s.sync → u.atWithdrawal true = none := fun u hu =>
    atWithdrawal_none (by rw [hu]; exact h) true
  have hs := hw s rfl
  refine ⟨congrArg _ (hear_congr fun bytes u hu => ?_), ?_, congrArg _ (hear_congr fun bytes u hu => ?_), ?_,
    congrArg _ (hear_congr fun bytes u hu => ?_), ?_, ?_⟩
  · simp [takeMarkerBytes, hw u hu]
  · simp [exec, execMarkerSlotEnd, hs]
  · simp [takeRollBytes, hw u hu]
  · simp [exec, execRollSlotDamaged, hs]
  · simp [takeDataBytes, hw u hu]
  · simp [exec, execDataPhaseDamaged, hs]
  · simp [exec, execLineFaultTimerExpiry, hs]

/-- Settles O26. -/
theorem receptionsComeInParts : Obligations.ReceptionsComeInParts := by
  refine ⟨fun b o k p g s => ⟨begins_on_line b o k p g s, second_in_roll_slot b k g s, second_in_data_phase b p g s,
    fun hl => ?_, fun hr => ?_, fun first u hr hu => ?_⟩, fun i s t => exec_withdrawn_lif,
    fun b o k p q s => together_without_withdrawal b o k p q s⟩
  · simp only [exec, execMarkerReceived, execRollWordReceived, execDataFrameReceived, hl, awaits_offLine hl]
    exact ⟨rfl, rfl, rfl⟩
  · simp only [exec, execMarkerReceived, execRollWordReceived, execDataFrameReceived, hear_ends_none hr, and_self]
  · simp only [exec, execMarkerReceived, execRollWordReceived, execDataFrameReceived, hear_ends_some hr, hu]
    exact ⟨rfl, rfl, rfl⟩

end Sys2Proof.Machine

namespace Sys2Proof.Machine

/-! ## States, block by block -/

theorem state_ext {s t : State} (lif : s.lif = t.lif) (sync : s.sync = t.sync) (ptu : s.ptu = t.ptu)
    (rcm : s.rcm = t.rcm) (cru : s.cru = t.cru) (txe : s.txe = t.txe) (dlt : s.dlt = t.dlt) (rxe : s.rxe = t.rxe)
    (fru : s.fru = t.fru) (cfg : s.cfg = t.cfg) (hp : s.hp = t.hp) (pending : s.pending = t.pending) : s = t := by
  cases s; cases t; simp_all

/-! ## Seen flags and pending events -/

@[simp] theorem record_seen_self (f : Fru) (k : FaultKind) (n : Option Half) (st : SyncState) (ctx : FaultCtx) :
    (f.record k n st ctx).seen[k.code.val]'(k.code.isLt) = true := by
  unfold Fru.record; dsimp only; split <;> simp

/-- R150: a seen flag stays set. -/
theorem record_seen_mono (f : Fru) (k j : FaultKind) (n : Option Half) (st : SyncState) (ctx : FaultCtx)
    (h : f.seen[j.code.val]'(j.code.isLt) = true) : (f.record k n st ctx).seen[j.code.val]'(j.code.isLt) = true := by
  unfold Fru.record; dsimp only; split <;> simp [Vector.getElem_set, h]

theorem bit_getLsbD (e e' : Event) : e.bit.getLsbD e'.index.val = decide (e = e') := by
  revert e e'; intro e e'; cases e <;> cases e' <;> rfl

/-- R180: what is pending, in terms of the event set. -/
theorem isPending_or {s t : State} {e : Event} (h : t.hp.events = s.hp.events ||| e.bit) (e' : Event) :
    t.isPending e' = (decide (e = e') || s.isPending e') := by
  unfold State.isPending
  rw [h, BitVec.getLsbD_or, bit_getLsbD, Bool.or_comm]

theorem isPending_congr {s t : State} (h : t.hp.events = s.hp.events) (e : Event) : t.isPending e = s.isPending e := by
  unfold State.isPending; rw [h]

@[simp] theorem post_isPending (e e' : Event) (s : State) :
    (post e s).isPending e' = (decide (e = e') || s.isPending e') := isPending_or rfl e'

@[simp] theorem suspend_isPending (s : State) (e : Event) : (suspend s).isPending e = s.isPending e :=
  isPending_congr (by simp) e

/-- R84: a holder that yields has HOLDER pending. -/
theorem dropHolder_isPending_holder {s : State} (h : s.sync.holder = true) :
    (dropHolder s).isPending .holder = true := by
  simp [dropHolder, h]

/-! ## The end of a marker slot (R16, R88) -/

/-- R16: where the marker slot has had its result, or can have none, its end changes nothing but the reception. -/
theorem markerSlotEnd_idle (s : State) (h : s.slotTiming = false ∨ s.sync.holder = true ∨ s.sync.markerDone = true) :
    exec .markerSlotEnd s = .next { s with lif := { s.lif with rx := none } } := by
  simp only [exec, execMarkerSlotEnd, atWithdrawal_alone]
  rw [if_neg]
  · rfl
  · rintro ⟨ht, hh, hd⟩
    change s.slotTiming = true at ht
    simp_all

/-- R88: where it can have one, the marker is lost. -/
theorem markerSlotEnd_lost (s : State) (ht : s.slotTiming = true) (hh : s.sync.holder = false)
    (hd : s.sync.markerDone = false) :
    exec .markerSlotEnd s = .next (markerLost ((endReception s).withSync { s.sync with markerDone := true })) := by
  simp only [exec, execMarkerSlotEnd, atWithdrawal_alone]
  rw [if_pos]
  · rfl
  · exact ⟨ht, hh, hd⟩

theorem markerLost_first (s : State) (h : s.sync.lost = 0) :
    markerLost s = { recordFault .markerLost .none s with sync := { s.sync with lost := 1, cond := .flywheel } } := by
  unfold markerLost; dsimp only
  rw [if_pos (by simp [h])]
  apply state_ext <;> simp [h]

theorem markerLost_again (s : State) (h : s.sync.lost ≠ 0) :
    markerLost s =
      suspend { recordFault .markerLost .none s with sync := { s.sync with lost := s.sync.lost + 1 } } := by
  unfold markerLost; dsimp only
  rw [if_neg (by simp [h])]
  apply congrArg
  apply state_ext <;> simp

/-- Settles O24. -/
theorem lostMarkersFlywheelThenSuspend : Obligations.LostMarkersFlywheelThenSuspend := by
  refine ⟨fun s ht hh hd hl => ?_, fun s ht ha hh hd hl => ?_, fun s ht ha hh hd hl => ?_, markerSlotEnd_idle⟩
  · rw [markerSlotEnd_lost s ht hh hd, markerLost_first _ (by exact hl)]
    congr 1
    apply state_ext <;> simp [recordFault_hp]
  · rw [markerSlotEnd_lost s ht hh hd, markerLost_again _ (by simp [hl])]
    congr 1
    apply state_ext <;> simp [recordFault_hp, suspend_sync, suspend_ptu, ha, hl, Config.takeoverDelay,
        Config.rollSlotBits, State.own]
  · rw [markerSlotEnd_lost s ht hh hd, markerLost_again _ (by simp [hl])]
    have hst : (s.sync.state = .learning ∨ s.sync.state = .relearn) ↔ ¬ s.sync.state = .joining := by
      have := slotTiming_timed ht
      cases h : s.sync.state <;> simp_all [SyncState.timed]
    congr 1
    apply state_ext <;> simp [recordFault_hp, suspend_sync, suspend_ptu, ha, hl, hst]

/-! ## The read-back of the own marker (R86) -/

theorem ownMarkerReadBack_intact {sent : List Byte} {s : State}
    (h : s.lif.tx = some { frame := .marker, bytes := sent }) :
    exec (.ownMarkerReadBack (.bytes sent)) s =
      .next { s with lif := { s.lif with tx := none }, sync := { s.sync with lost := 0 } } := by
  simp [exec, execOwnMarkerReadBack, h, readBackIntact]
  apply state_ext <;> simp

theorem ownMarkerReadBack_failed {sent : List Byte} {s : State} {r : Reception}
    (h : s.lif.tx = some { frame := .marker, bytes := sent }) (hr : r ≠ .bytes sent) :
    exec (.ownMarkerReadBack r) s =
      let s1 : State := { recordFault .txCollision .none s with
        lif := { s.lif with tx := none }, sync := { s.sync with lost := s.sync.lost + 1 } }
      .next (if s.sync.lost = 0 then s1 else suspend (dropHolder s1)) := by
  have hi : readBackIntact sent r = false := by
    rw [Bool.eq_false_iff, Ne, readBackIntact_eq]; exact hr
  have hs : ((recordFault .txCollision .none (cutTransmission s)).withSync
      { s.sync with lost := s.sync.lost + 1 } : State) = { recordFault .txCollision .none s with
        lif := { s.lif with tx := none }, sync := { s.sync with lost := s.sync.lost + 1 } } := by
    apply state_ext <;> simp [recordFault_hp]
  simp [exec, execOwnMarkerReadBack, h, hi, hs]

/-- Settles O25. -/
theorem ownMarkerReadBack : Obligations.OwnMarkerReadBack := by
  intro sent s h
  refine ⟨ownMarkerReadBack_intact h, fun r hr => ⟨fun hl => ?_, fun hl ha hh => ?_⟩⟩
  · rw [ownMarkerReadBack_failed h hr]; simp [hl]
  · rw [ownMarkerReadBack_failed h hr]
    refine ⟨_, rfl, ?_⟩
    simp [hl, suspend_sync, suspend_ptu, dropHolder_sync, ha, Config.takeoverDelay, Config.rollSlotBits, State.own,
      dropHolder_isPending_holder, hh]

end Sys2Proof.Machine

namespace Sys2Proof.Machine

/-! ## Markers by the station's state (R80, R87) -/

theorem markerReceived_bytes (b : List Byte) (o : Int) (s : State) :
    exec (.markerReceived b o) s = .next (takeMarkerBytes o false b s) := rfl

theorem markerReceived_none {b : List Byte} (o : Int) (s : State) (h : parseMarker b = none) :
    exec (.markerReceived b o) s = .next s := by
  simp [markerReceived_bytes, takeMarkerBytes, h]

/-- R80: an intact marker goes to SYNC. -/
theorem markerReceived_some {b : List Byte} {m : Marker} (o : Int) (s : State) (h : parseMarker b = some m) :
    exec (.markerReceived b o) s = .next (handleMarker m o s) := by
  simp [markerReceived_bytes, takeMarkerBytes, h]

theorem handleMarker_offLine (m : Marker) (o : Int) {s : State} (h : s.sync.state.onLine = false) :
    handleMarker m o s = s := by simp [handleMarker, h]

theorem fatal_onLine (k : FaultKind) (ctx : FaultCtx) {s : State} (h : s.sync.state.onLine = true) :
    fatal k ctx s = withdrawNow (recordFault k ctx s) := by simp [fatal, h]

theorem handleMarker_own {m : Marker} (o : Int) {s : State} (hl : s.sync.state.onLine = true) (h : m.holder = s.own) :
    handleMarker m o s = withdrawNow (recordFault .addressInUse (.sender s.own) s) := by
  simp [handleMarker, hl, h, fatal_onLine]

theorem handleMarker_listening {m : Marker} (o : Int) {s : State} (h : m.holder ≠ s.own)
    (hs : s.sync.state = .listening) : handleMarker m o s = takeMarker m o true s := by
  simp [handleMarker, hs, h, SyncState.onLine]

/-- R87: at a holder the lower address decides. -/
theorem handleMarker_holder {m : Marker} (o : Int) {s : State} (h : m.holder ≠ s.own) (ht : s.sync.state.timed = true)
    (hh : s.sync.holder = true) :
    handleMarker m o s = if m.holder < s.own then takeMarker m o true (dropHolder s) else s := by
  have hs : s.sync.state ≠ .listening := by rintro hs; rw [hs] at ht; cases ht
  simp [handleMarker, onLine_of_timed ht, h, hs, hh]

theorem handleMarker_suspended {m : Marker} (o : Int) {s : State} (h : m.holder ≠ s.own)
    (ht : s.sync.state.timed = true) (hh : s.sync.holder = false) (hc : s.sync.cond = .suspended) :
    handleMarker m o s = takeMarker m o true s := by
  have hs : s.sync.state ≠ .listening := by rintro hs; rw [hs] at ht; cases ht
  simp [handleMarker, onLine_of_timed ht, h, hs, hh, hc]

/-- R80: with the cycle running, a station that is not holder takes the first marker in the window. -/
theorem handleMarker_running {m : Marker} (o : Int) {s : State} (h : m.holder ≠ s.own)
    (ht : s.sync.state.timed = true) (hh : s.sync.holder = false)
    (hc : s.sync.cond = .running ∨ s.sync.cond = .flywheel) :
    handleMarker m o s =
      if inWindow o = true ∧ s.sync.markerDone = false then takeMarker m o false s else s := by
  have hs : s.sync.state ≠ .listening := by rintro hs; rw [hs] at ht; cases ht
  have hst : s.slotTiming = true := by simpa [State.slotTiming, ht] using hc
  have hn : s.sync.cond ≠ .suspended := by rcases hc with hc | hc <;> simp [hc]
  simp [handleMarker, onLine_of_timed ht, h, hs, hh, hn, hst]

theorem inWindow_iff (o : Int) : inWindow o = true ↔ -16 ≤ o ∧ o ≤ 16 := by
  rw [inWindow, Bool.and_eq_true]
  exact and_congr decide_eq_true_iff decide_eq_true_iff

/-- Settles O20. -/
theorem markersDisregardedOrFatal : Obligations.MarkersDisregardedOrFatal := by
  refine ⟨⟨fun b o s => markerReceived_none o s, fun b o s hl => ?_, fun b o m s hm ho ht hh hc hw => ?_,
    fun b o m s hm ho ha hh => ?_⟩, fun b o m s hm ho hl => ?_⟩
  · cases hm : parseMarker b with
    | none => exact markerReceived_none o s hm
    | some m => rw [markerReceived_some o s hm, handleMarker_offLine m o hl]
  · rw [markerReceived_some o s hm, handleMarker_running o ho ht hh hc, if_neg]
    rw [inWindow_iff]
    rintro ⟨hwin, hd⟩
    rcases hw with hw | hw | hw
    · omega
    · omega
    · simp_all
  · rw [markerReceived_some o s hm, handleMarker_holder o (ne_of_gt ho) (by simp [ha, SyncState.timed]) hh,
      if_neg (not_lt_of_gt ho)]
  · exact ⟨_, by rw [markerReceived_some o s hm, handleMarker_own o hl ho], withdrawNow_whole _⟩

/-! ## The instant of a withdrawal (R157) -/

theorem atWithdrawal_some {s : State} {l : Left} (hs : s.sync.state = .withdrawn) (hl : s.sync.left = some l) :
    s.atWithdrawal true = some l := by simp [State.atWithdrawal, hs, hl]

theorem addrOf_eq_none (b : Byte) : addrOf b = none ↔ 32#8 ≤ b := by
  revert b; decide +kernel

theorem clsOf_eq_none (b : Byte) : clsOf b = none ↔ 4#8 ≤ b := by
  revert b; decide +kernel

theorem reportDataFrame_eq (k : Phase) (f : DataFrame) (s : State) : reportDataFrame k f s =
    if 32#8 ≤ f.source ∨ 4#8 ≤ f.cls then recordFault .frameCheck (.phase k) s else s := by
  simp only [reportDataFrame, Option.isNone_iff_eq_none, addrOf_eq_none, clsOf_eq_none]

/-- R8, R157: what RCM reports of a slot at that instant, by what the station left. -/
theorem rollSlot_at_withdrawal {s : State} {l : Left} (hw : s.atWithdrawal true = some l) {k : Addr}
    (hp : l.heardAsPeer s.own k = true) (b : List Byte) :
    exec (.rollSlotDamaged k true) s = .next (recordFault .rollCheck (.sender k) s) ∧
    (parseRollWord b = none →
      exec (.rollWordReceived k b .whole true) s = .next (recordFault .rollCheck (.sender k) s)) ∧
    ∀ w, parseRollWord b = some w → exec (.rollWordReceived k b .whole true) s = .next (reportRollWord k w s) := by
  refine ⟨by simp [exec, execRollSlotDamaged, hw, hp], fun hn => ?_, fun w hsome => ?_⟩
  · simp [exec, execRollWordReceived, hear, takeRollBytes, hw, hp, hn]
  · simp [exec, execRollWordReceived, hear, takeRollBytes, hw, hp, hsome]

theorem rollSlot_unheard_at_withdrawal {s : State} {l : Left} (hw : s.atWithdrawal true = some l) {k : Addr}
    (hp : l.heardAsPeer s.own k = false) (b : List Byte) :
    exec (.rollSlotDamaged k true) s = .next s ∧ exec (.rollWordReceived k b .whole true) s = .next s := by
  simp [exec, execRollSlotDamaged, execRollWordReceived, hear, takeRollBytes, hw, hp]

/-- R117, R157: what RXE reports of a phase at that instant. -/
theorem phase_at_withdrawal {s : State} {l : Left} (hw : s.atWithdrawal true = some l) {k : Phase}
    (hp : l.heardByRxe k = true) (b : List Byte) :
    exec (.dataPhaseDamaged k true) s = .next (recordFault .frameCheck (.phase k) s) ∧
    (parseDataFrame b = none →
      exec (.dataFrameReceived k b .whole true) s = .next (recordFault .frameCheck (.phase k) s)) ∧
    ∀ f, parseDataFrame b = some f → exec (.dataFrameReceived k b .whole true) s = .next (reportDataFrame k f s) := by
  refine ⟨by simp [exec, execDataPhaseDamaged, hw, hp], fun hn => ?_, fun w hsome => ?_⟩
  · simp [exec, execDataFrameReceived, hear, takeDataBytes, hw, hp, hn]
  · simp [exec, execDataFrameReceived, hear, takeDataBytes, hw, hp, hsome]

theorem phase_unheard_at_withdrawal {s : State} {l : Left} (hw : s.atWithdrawal true = some l) {k : Phase}
    (hp : l.heardByRxe k = false) (b : List Byte) :
    exec (.dataPhaseDamaged k true) s = .next s ∧ exec (.dataFrameReceived k b .whole true) s = .next s := by
  simp [exec, execDataPhaseDamaged, execDataFrameReceived, hear, takeDataBytes, hw, hp]

theorem leftNow_congr {s t : State} (hs : t.sync = s.sync) (htx : t.lif.tx = s.lif.tx)
    (hf : t.lif.lineFaultTimer = s.lif.lineFaultTimer) : leftNow t = leftNow s := by
  simp [leftNow, State.slotTiming, hs, htx, hf]

theorem heardAsPeer_left_iff (l : Left) (own k : Addr) :
    l.heardAsPeer own k = true ↔ l.timing = true ∧ (k ≠ own ∨ l.state = .learning) := by
  simp [Left.heardAsPeer]

theorem heardByRxe_iff (l : Left) (k : Phase) :
    l.heardByRxe k = true ↔ l.state = .active ∧ l.timing = true ∧ l.drove ≠ some k := by
  simp [Left.heardByRxe, and_assoc]

/-- Settles O28. -/
theorem faultsAtTheInstantOfAWithdrawal : Obligations.FaultsAtTheInstantOfAWithdrawal := by
  constructor
  · intro l s hs hl
    have hw := atWithdrawal_some hs hl
    refine ⟨by simp [exec, execLineFaultTimerExpiry, hw], by simp [exec, execMarkerSlotEnd, hw],
      fun b o m hm => by simp [exec, execMarkerReceived, hear, takeMarkerBytes, hm, hw], fun k b ht hk => ?_,
      fun k b hn => ?_, fun k b ha ht hd => ?_, fun k b hn => ?_⟩
    · have hp : l.heardAsPeer s.own k = true := (heardAsPeer_left_iff l s.own k).mpr ⟨ht, hk⟩
      exact rollSlot_at_withdrawal hw hp b
    · have hp : l.heardAsPeer s.own k = false := by
        rw [Bool.eq_false_iff, Ne, heardAsPeer_left_iff]
        rintro ⟨ht, hk⟩
        rcases hn with hn | hn <;> simp_all
      exact rollSlot_unheard_at_withdrawal hw hp b
    · simp only [← reportDataFrame_eq]
      exact phase_at_withdrawal hw ((heardByRxe_iff l k).mpr ⟨ha, ht, hd⟩) b
    · have hp : l.heardByRxe k = false := by
        rw [Bool.eq_false_iff, Ne, heardByRxe_iff]
        rintro ⟨ha, ht, hd⟩
        rcases hn with hn | hn | hn <;> simp_all
      exact phase_unheard_at_withdrawal hw hp b
  · intro b o m s hm ho hl
    have hst : (withdrawNow (recordFault .addressInUse (.sender s.own) s)).sync.state = .withdrawn := by
      rw [withdrawNow_sync]
    have hw : (withdrawNow (recordFault .addressInUse (.sender s.own) s)).atWithdrawal true = some (leftNow s) := by
      refine atWithdrawal_some hst ?_
      rw [withdrawNow_sync, leftNow_congr (s := s) (by simp) (by simp) (by simp)]
    refine ⟨_, by rw [markerReceived_some o s hm, handleMarker_own o hl ho], hst, by simp, fun n hn => ?_,
      fun k ht hk => ?_⟩
    · simp [exec, execLineFaultTimerExpiry, hw, leftNow, hn]
    · refine (rollSlot_at_withdrawal hw ?_ []).1
      rw [heardAsPeer_left_iff]
      exact ⟨ht, by simpa [State.own, leftNow] using hk⟩

end Sys2Proof.Machine

namespace Sys2Proof.Machine

/-! ## Roll slots refused (R8, R9, R41, R42) -/

theorem heardAsPeer_iff (k : Addr) (s : State) : heardAsPeer k s = true ↔
    s.slotTiming = true ∧ (k ≠ s.own ∨ s.sync.state = .learning) ∧ s.lif.rollDone[k] = false := by
  simp [heardAsPeer, and_assoc]

theorem rollSlotDamaged_heard {k : Addr} {s : State} (h : heardAsPeer k s = true) :
    exec (.rollSlotDamaged k) s = .next (recordFault .rollCheck (.sender k) (rollHad k (endReception s))) := by
  have h' : heardAsPeer k (endReception s) = true := h
  simp [exec, execRollSlotDamaged, h']

theorem rollSlotDamaged_unheard {k : Addr} {s : State} (h : heardAsPeer k s = false) :
    exec (.rollSlotDamaged k) s = .next (endReception s) := by
  have h' : heardAsPeer k (endReception s) = false := h
  simp [exec, execRollSlotDamaged, h']

theorem rollWordReceived_none {k : Addr} {b : List Byte} {s : State} (h : heardAsPeer k s = true)
    (hb : parseRollWord b = none) :
    exec (.rollWordReceived k b) s = .next (recordFault .rollCheck (.sender k) (rollHad k s)) := by
  simp [exec, execRollWordReceived, hear, takeRollBytes, h, hb]

theorem rollWordReceived_some {k : Addr} {b : List Byte} {w : RollWord} {s : State} (h : heardAsPeer k s = true)
    (hb : parseRollWord b = some w) :
    exec (.rollWordReceived k b) s = .next (checkRollWord k w (rollHad k s)) := by
  simp [exec, execRollWordReceived, hear, takeRollBytes, h, hb]

theorem rollWordReceived_unheard {k : Addr} {b : List Byte} {s : State} (h : heardAsPeer k s = false) :
    exec (.rollWordReceived k b) s = .next s := by
  simp [exec, execRollWordReceived, hear, takeRollBytes, h]

theorem recordFault_withLif (k : FaultKind) (ctx : FaultCtx) (s : State) (l : Lif) :
    recordFault k ctx (s.withLif l) = (recordFault k ctx s).withLif l := by
  unfold recordFault
  cases hm : masked s.fru.mask k <;> simp [hm] <;> rfl

/-- An entry to WITHDRAWN does not ask what stood in LIF, but for what the station left. -/
theorem WithdrawnFrom.of_withLif {s t : State} {l : Lif} (h : WithdrawnFrom (s.withLif l) t)
    (hl : leftNow (s.withLif l) = leftNow s) : WithdrawnFrom s t :=
  { h with sync := by rw [h.sync, hl] }

/-- R41: a roll word from the own address, heard in the own slot. -/
theorem checkRollWord_own {w : RollWord} {s : State} (hl : s.sync.state.onLine = true) (hw : w.sender = finByte s.own) :
    checkRollWord s.own w (rollHad s.own s) =
      withdrawNow (recordFault .addressInUse (.sender s.own) (rollHad s.own s)) := by
  have ho : (rollHad s.own s).own = s.own := rfl
  unfold checkRollWord
  rw [if_neg (by simp [hw]), if_pos ho.symm, fatal_onLine _ _ (by exact hl)]; rfl

/-- Settles O29. -/
theorem rollSlotsRefused : Obligations.RollSlotsRefused := by
  refine ⟨fun k frame s u v hu hv => ⟨fun ht hk hd => ?_, fun hn => ?_⟩, fun k frame w s v ht hw hd hv =>
    ⟨fun hk hs => ?_, fun hk hs hf => ?_, fun hk hs hp hj => ?_, fun hk hst hs => ?_⟩⟩
  · have hp := (heardAsPeer_iff k s).mpr ⟨ht, hk, hd⟩
    rw [rollSlotDamaged_heard hp, hv]
    exact ⟨rfl, rollWordReceived_none hp⟩
  · have hp : heardAsPeer k s = false := by
      rw [Bool.eq_false_iff, Ne, heardAsPeer_iff]
      rintro ⟨ht, hk, -⟩
      rcases hn with hn | hn <;> simp_all
    rw [rollSlotDamaged_unheard hp, hu]
    exact ⟨rfl, rollWordReceived_unheard hp⟩
  · rw [rollWordReceived_some ((heardAsPeer_iff k s).mpr ⟨ht, hk, hd⟩) hw, hv]
    simp only [checkRollWord, if_pos hs]; rfl
  · rw [rollWordReceived_some ((heardAsPeer_iff k s).mpr ⟨ht, .inl hk, hd⟩) hw, hv]
    have hk' : k ≠ (rollHad k s).own := hk
    simp [checkRollWord, hs, hk', hf]; rfl
  · rw [rollWordReceived_some ((heardAsPeer_iff k s).mpr ⟨ht, .inl hk, hd⟩) hw, hv]
    have hk' : k ≠ (rollHad k s).own := hk
    have hp' : s.rcm.present k = false := by rw [Rcm.present, hp]; rfl
    simp [checkRollWord, hs, hk', hp', hj]; rfl
  · subst hk
    refine ⟨_, rollWordReceived_some ((heardAsPeer_iff s.own s).mpr ⟨ht, .inr hst, hd⟩) hw, ?_⟩
    rw [checkRollWord_own (by simp [hst, SyncState.onLine]) hs]
    have h := withdrawNow_whole (recordFault .addressInUse (.sender s.own) (rollHad s.own s))
    rw [rollHad, recordFault_withLif] at h ⊢
    exact h.of_withLif (leftNow_congr rfl (by simp) (by simp))

/-! ## The read-back of the own roll word (R39) -/

theorem ownRollReadBack_leave {w : RollWord} {sent : List Byte} {s : State}
    (h : s.lif.tx = some { frame := .roll w, bytes := sent }) (hw : w.leave = true) (r : Reception) :
    exec (.ownRollReadBack r) s = .next (rollHad s.own (cutTransmission s)) := by
  simp [exec, execOwnRollReadBack, h, hw]

theorem readBackIntact_false {sent : List Byte} {r : Reception} (h : r ≠ .bytes sent) :
    readBackIntact sent r = false := by
  rw [Bool.eq_false_iff, Ne, readBackIntact_eq]; exact h

theorem ownRollReadBack_failed {w : RollWord} {sent : List Byte} {s : State} {r : Reception}
    (h : s.lif.tx = some { frame := .roll w, bytes := sent }) (hw : w.leave = false) (hr : r ≠ .bytes sent) :
    exec (.ownRollReadBack r) s = .next (if w.join then
      fatal .addressConflict (.sender s.own) (rollHad s.own (cutTransmission s))
      else rollCollision (rollHad s.own (cutTransmission s))) := by
  simp [exec, execOwnRollReadBack, h, hw, readBackIntact_false hr]; rfl

/-- R17, R156: a FATAL kind is seen, and withdraws a station on the line. -/
theorem fatal_withdraws (k : FaultKind) (ctx : FaultCtx) {s : State} (h : s.sync.state.onLine = true) :
    (fatal k ctx s).sync.state = .withdrawn ∧ (fatal k ctx s).fru.seen[k.code] = true := by
  rw [fatal_onLine k ctx h]
  exact ⟨by rw [withdrawNow_sync], by simp⟩

/-- Settles O31. -/
theorem ownRollReadBack : Obligations.OwnRollReadBack := by
  intro w sent s h
  refine ⟨fun hw r => ?_, fun hw => ?_, fun hw r hr => ⟨fun hj hc => ?_, fun hj hl => ?_⟩⟩
  · rw [ownRollReadBack_leave h hw r]; rfl
  · simp [exec, execOwnRollReadBack, h, hw, readBackIntact]; rfl
  · rw [ownRollReadBack_failed h hw hr]
    simp [hj, rollCollision, hc]; rfl
  · refine ⟨_, ownRollReadBack_failed h hw hr, ?_⟩
    split
    · exact fatal_withdraws _ _ hl
    · rename_i hn
      have hc : 1 ≤ s.rcm.ownCollisions := hj.resolve_left hn
      unfold rollCollision; dsimp only
      rw [if_neg (by simp; omega)]
      exact fatal_withdraws _ _ hl

end Sys2Proof.Machine

namespace Sys2Proof.Machine

/-! ## Data phases refused (R117, R118, R120) -/

theorem handedToRxe_iff (k : Phase) (s : State) : handedToRxe k s = true ↔
    s.slotTiming = true ∧ s.lif.phaseDone[k] = false ∧ ∀ c b, s.lif.tx ≠ some { frame := .data k c, bytes := b } := by
  have htx : (match s.lif.tx with
      | some { frame := .data j _, bytes := _ } => j != k
      | _ => true) = true ↔ ∀ c b, s.lif.tx ≠ some { frame := .data k c, bytes := b } := by
    split
    · rename_i j c b h
      rw [h]
      simp only [bne_iff_ne, ne_eq, Option.some.injEq, TxRecord.mk.injEq, SentFrame.data.injEq]
      exact ⟨fun hj _ _ he => hj he.1.1, fun h hj => h c b ⟨⟨hj, rfl⟩, rfl⟩⟩
    · rename_i h
      exact ⟨fun _ c b he => h k c b he, fun _ => rfl⟩
  unfold handedToRxe
  rw [Bool.and_eq_true, Bool.and_eq_true, Bool.not_eq_true', and_assoc]
  exact and_congr Iff.rfl (and_congr Iff.rfl htx)

theorem dataPhaseDamaged_handed {k : Phase} {s : State} (h : handedToRxe k s = true) :
    exec (.dataPhaseDamaged k) s = .next (actOnPhase k none (phaseHad k (endReception s))) := by
  have h' : handedToRxe k (endReception s) = true := h
  simp [exec, execDataPhaseDamaged, h']

theorem dataPhaseDamaged_unhanded {k : Phase} {s : State} (h : handedToRxe k s = false) :
    exec (.dataPhaseDamaged k) s = .next (endReception s) := by
  have h' : handedToRxe k (endReception s) = false := h
  simp [exec, execDataPhaseDamaged, h']

theorem dataFrameReceived_handed {k : Phase} {s : State} (h : handedToRxe k s = true) (b : List Byte) :
    exec (.dataFrameReceived k b) s = .next (actOnPhase k (parseDataFrame b) (phaseHad k s)) := by
  simp [exec, execDataFrameReceived, hear, takeDataBytes, h]

theorem dataFrameReceived_unhanded {k : Phase} {s : State} (h : handedToRxe k s = false) (b : List Byte) :
    exec (.dataFrameReceived k b) s = .next s := by
  simp [exec, execDataFrameReceived, hear, takeDataBytes, h]

theorem actOnPhase_active {k : Phase} {s : State} (h : s.sync.state = .active) :
    actOnPhase k none s = recordFault .frameCheck (.phase k) s ∧
      ∀ f, actOnPhase k (some f) s = checkDataFrame k f s := by
  simp [actOnPhase, h]

theorem actOnPhase_inactive {k : Phase} {s : State} (h : s.sync.state ≠ .active) (f : Option DataFrame) :
    actOnPhase k f s = s := by
  simp [actOnPhase, h]

/-- R118: check 1. -/
theorem checkDataFrame_out_of_range {k : Phase} {f : DataFrame} {s : State} (h : 32#8 ≤ f.source ∨ 4#8 ≤ f.cls) :
    checkDataFrame k f s = recordFault .frameCheck (.phase k) s := by
  unfold checkDataFrame
  split
  · rename_i ha hc
    rw [← addrOf_eq_none, ← clsOf_eq_none, ha, hc] at h
    simp at h
  · rfl

theorem clsOf_of_le {b : Byte} (h : b ≤ 3#8) : ∃ c, clsOf b = some c := by
  refine Option.ne_none_iff_exists'.mp fun hn => ?_
  have := (clsOf_eq_none b).mp hn
  bv_omega

/-- R120: check 3. -/
theorem checkDataFrame_foreign {k : Phase} {f : DataFrame} {a : Addr} {s : State} (ha : f.source = finByte a)
    (hc : f.cls ≤ 3#8) (hd : f.dest = finByte s.own ∨ f.dest = 63#8)
    (ho : s.ptu.table[k] ≠ .owned a ∨ a = s.own) :
    checkDataFrame k f s = recordFault .foreignFrame (.frame f.source f.dest f.cls f.seq) s := by
  obtain ⟨c, hc⟩ := clsOf_of_le hc
  have hd' : ¬ (f.dest ≠ finByte s.own ∧ f.dest ≠ 63#8) := by tauto
  have ho' : s.ptu.table[k].owner ≠ some a ∨ a = s.own := ho.imp_left (mt owner_eq_some.mp)
  have hs : addrOf f.source = some a := by rw [ha, addrOf_finByte]
  unfold checkDataFrame
  rw [hs, hc]; dsimp only
  rw [if_neg hd', if_pos ho']

/-- Settles O32. -/
theorem framesRefused : Obligations.FramesRefused := by
  refine ⟨fun k frame s u v hu hv => ⟨fun ht htx hd => ⟨fun ha => ?_, fun ha => ?_⟩, fun hn => ?_⟩,
    fun k frame f s v ha ht htx hd hv hf => ⟨fun hr => ?_, fun a hs hc hdest ho => ?_⟩⟩
  · have hp := (handedToRxe_iff k s).mpr ⟨ht, hd, htx⟩
    rw [dataPhaseDamaged_handed hp, dataFrameReceived_handed hp, hv,
      (actOnPhase_active (s := phaseHad k (endReception s)) ha).1]
    refine ⟨rfl, fun hn => ?_⟩
    rw [hn, (actOnPhase_active (s := phaseHad k s) ha).1]; rfl
  · have hp := (handedToRxe_iff k s).mpr ⟨ht, hd, htx⟩
    rw [dataPhaseDamaged_handed hp, dataFrameReceived_handed hp, hv,
      actOnPhase_inactive (s := phaseHad k (endReception s)) ha, actOnPhase_inactive (s := phaseHad k s) ha]
    exact ⟨rfl, rfl⟩
  · have hp : handedToRxe k s = false := by
      rw [Bool.eq_false_iff, Ne, handedToRxe_iff]
      rintro ⟨ht, -, htx⟩
      rcases hn with hn | ⟨c, b, hn⟩
      · simp_all
      · exact htx c b hn
    rw [dataPhaseDamaged_unhanded hp, dataFrameReceived_unhanded hp, hu]
    exact ⟨rfl, rfl⟩
  · have hp := (handedToRxe_iff k s).mpr ⟨ht, hd, htx⟩
    rw [dataFrameReceived_handed hp, hf, (actOnPhase_active (s := phaseHad k s) ha).2,
      checkDataFrame_out_of_range hr, hv]
    rfl
  · have hp := (handedToRxe_iff k s).mpr ⟨ht, hd, htx⟩
    rw [dataFrameReceived_handed hp, hf, (actOnPhase_active (s := phaseHad k s) ha).2,
      checkDataFrame_foreign (s := phaseHad k s) hs hc hdest ho, hv]
    rfl

end Sys2Proof.Machine

namespace Sys2Proof.Machine

/-! ## Events pending behind the shared operations -/

theorem recordFault_isPending (k : FaultKind) (ctx : FaultCtx) (s : State) (e : Event) :
    (recordFault k ctx s).isPending e = ((decide (e = .fault) && !masked s.fru.mask k) || s.isPending e) := by
  unfold recordFault; dsimp only
  cases hm : masked s.fru.mask k
  · rw [if_neg (by simp), post_isPending]
    simp [State.isPending, eq_comm]
  · rw [if_pos rfl]
    simp [State.isPending]

theorem complete_isPending (st : DoneStatus) (f : TxFrame) (s : State) (e : Event) :
    (complete st f s).isPending e = ((decide (e = .doneReady) && s.dlt.done.isEmpty) || s.isPending e) := by
  unfold complete; dsimp only
  split
  · rename_i h
    rw [post_isPending]; simp [State.isPending, eq_comm, h]
  · rename_i h
    simp [State.isPending, h]

/-- R62, R66, R84: leaving ACTIVE sets HOLDER, CLAIM_END and RELEASE_END pending, and no other event. -/
theorem leaveActive_isPending {s : State} {e : Event} (he : e ≠ .holder ∧ e ≠ .claimEnd ∧ e ≠ .releaseEnd) :
    (leaveActive s).isPending e = s.isPending e := by
  unfold leaveActive
  split
  · have h1 : (dropHolder s).isPending e = s.isPending e := by
      unfold dropHolder; split
      · rw [post_isPending, decide_eq_false (Ne.symm he.1), Bool.false_or]; rfl
      · rfl
    have h2 : ∀ u, (abortClaim u).isPending e = u.isPending e := by
      intro u; unfold abortClaim endClaim; split
      · rfl
      · rw [post_isPending, decide_eq_false (Ne.symm he.2.1), Bool.false_or]; rfl
    have h3 : ∀ u, (abortReleases u).isPending e = u.isPending e := by
      intro u; unfold abortReleases; dsimp only; split
      · rw [post_isPending, decide_eq_false (Ne.symm he.2.2), Bool.false_or]; rfl
      · rfl
    exact (h3 _).trans ((h2 _).trans h1)
  · rfl

@[simp] theorem enter_isPending (st : SyncState) (s : State) (e : Event) :
    (enter st s).isPending e = (decide (Event.syncState = e) || s.isPending e) := by
  unfold enter; rw [post_isPending]; rfl

theorem toRelearn_isPending {s : State} {e : Event} (he : e ≠ .holder ∧ e ≠ .claimEnd ∧ e ≠ .releaseEnd) :
    (toRelearn s).isPending e = (decide (Event.syncState = e) || s.isPending e) := by
  rw [← leaveActive_isPending (s := s) he]
  unfold toRelearn; dsimp only
  split <;> rw [enter_isPending] <;> rfl

/-! ## The read-back of an own data frame (R111, R112) -/

theorem setQueue_queue (t : Txe) (c d : Cls) (q : List TxFrame) :
    (t.setQueue c q).queue d = if d = c then q else t.queue d := by
  cases c <;> cases d <;> rfl

/-- A class's queue does not depend on the mark and the conflict count. -/
theorem queue_congr {t u : Txe} (h0 : t.q0 = u.q0) (h1 : t.q1 = u.q1) (h2 : t.q2 = u.q2) (h3 : t.q3 = u.q3) (c : Cls) :
    t.queue c = u.queue c := by
  cases c <;> assumption

@[simp] theorem setQueue_mark (t : Txe) (c : Cls) (q : List TxFrame) : (t.setQueue c q).mark = t.mark := by
  cases c <;> rfl

@[simp] theorem setQueue_conflict (t : Txe) (c : Cls) (q : List TxFrame) :
    (t.setQueue c q).conflict = t.conflict := by
  cases c <;> rfl

/-- The state in which the marks of a read-back are set: a broadcast has left its queue. -/
def readBackDone (k : Phase) (bcast : Option Cls) (ok : Bool) (s : State) : State :=
  match bcast with
  | none => phaseHad k (cutTransmission s)
  | some c => finishBroadcast c (if ok then .sent else .collided) (phaseHad k (cutTransmission s))

theorem exec_ownDataReadBack {k : Phase} {bcast : Option Cls} {sent : List Byte} {s : State}
    (h : s.lif.tx = some { frame := .data k bcast, bytes := sent }) (r : Reception) :
    exec (.ownDataReadBack r) s = .next (if readBackIntact sent r
      then phaseClean (readBackDone k bcast true s) else phaseCollision k (readBackDone k bcast false s)) := by
  cases hi : readBackIntact sent r <;> cases bcast <;> simp [exec, execOwnDataReadBack, h, hi, readBackDone]

theorem ownDataReadBack_intact {k : Phase} {bcast : Option Cls} {sent : List Byte} {s : State}
    (h : s.lif.tx = some { frame := .data k bcast, bytes := sent }) :
    exec (.ownDataReadBack (.bytes sent)) s = .next (phaseClean (readBackDone k bcast true s)) := by
  rw [exec_ownDataReadBack h, if_pos (by simp [readBackIntact])]

theorem ownDataReadBack_failed {k : Phase} {bcast : Option Cls} {sent : List Byte} {s : State} {r : Reception}
    (h : s.lif.tx = some { frame := .data k bcast, bytes := sent }) (hr : r ≠ .bytes sent) :
    exec (.ownDataReadBack r) s = .next (phaseCollision k (readBackDone k bcast false s)) := by
  rw [exec_ownDataReadBack h, if_neg (by simp [readBackIntact_false hr])]

theorem phaseClean_txe (s : State) :
    (phaseClean s).txe = { s.txe with mark := if s.txe.mark = .none then .clean else s.txe.mark } := by
  unfold phaseClean; split <;> simp_all

/-- R112: a failed read-back with less than two failed cycles behind it, or of a failed cycle, marks the cycle. -/
theorem phaseCollision_marks {k : Phase} {s : State} (h : s.txe.conflict < 2 ∨ s.txe.mark = .failed) :
    phaseCollision k s = { recordFault .txCollision (.phase k) s with txe := { s.txe with mark := .failed } } := by
  unfold phaseCollision; dsimp only
  split
  · rename_i hm
    have hf : { s.txe with mark := .failed } = s.txe := by rw [← (by simpa using hm : s.txe.mark = .failed)]
    apply state_ext <;> simp [hf]
  · rename_i hm
    rw [if_pos (by simp_all)]
    apply state_ext <;> simp

/-- R112: with two failed cycles behind it, it takes the station to RELEARN. -/
theorem phaseCollision_relearns {k : Phase} {s : State} (hc : 2 ≤ s.txe.conflict) (hm : s.txe.mark ≠ .failed)
    (ha : s.sync.state = .active) : phaseCollision k s =
      toRelearn (recordFault .scheduleConflict (.phase k) (recordFault .txCollision (.phase k) s)) := by
  unfold phaseCollision; dsimp only
  rw [if_neg (by simp [hm]), if_neg (by simp; omega)]
  simp [degradeToRelearn, ha]

theorem cruOnLeavingActive_congr {s t : State} (hs : t.sync.state = s.sync.state) (hc : t.cru = s.cru) :
    cruOnLeavingActive t = cruOnLeavingActive s := by
  unfold cruOnLeavingActive; rw [hs, hc]

/-- R26, R112: SCHEDULE_CONFLICT, of a unicast frame and of a broadcast. -/
theorem conflictFrom_phaseCollision {k : Phase} {s u : State}
    (hl : u.lif = { s.lif with tx := none, phaseDone := s.lif.phaseDone.set k true }) (hs : u.sync = s.sync)
    (hp : u.ptu = s.ptu) (hcru : u.cru = s.cru) (hc : 2 ≤ u.txe.conflict) (hm : u.txe.mark ≠ .failed)
    (ha : u.sync.state = .active) : ConflictFrom k s (phaseCollision k u) := by
  rw [phaseCollision_relearns hc hm ha]
  have hw := toRelearn_whole (recordFault .scheduleConflict (.phase k) (recordFault .txCollision (.phase k) u))
    (by simpa using ha)
  constructor
  · rw [hw.lif]; simpa using hl
  · refine ⟨by rw [hw.sync], ?_⟩
    rw [toRelearn_isPending (by decide)]; rfl
  · rw [toRelearn_ptu]; simp [hp]
  · rw [hw.cru]; exact cruOnLeavingActive_congr (by simp [hs]) (by simp [hcru])
  · rw [hw.txe]; exact ⟨rfl, rfl⟩
  · rw [hw.fru]
    simp only [recordFault_fru]
    exact ⟨record_seen_mono _ _ _ _ _ _ (record_seen_self _ _ _ _ _), record_seen_self _ _ _ _ _⟩

theorem readBackDone_none (k : Phase) (ok : Bool) (s : State) :
    readBackDone k none ok s = phaseHad k (cutTransmission s) := rfl

/-- R111: the broadcast completes. -/
theorem readBackDone_some {k : Phase} {c : Cls} {ok : Bool} {f : TxFrame} {rest : List TxFrame} {s : State}
    (h : s.txe.queue c = f :: rest) : readBackDone k (some c) ok s =
      complete (if ok then .sent else .collided) f
        ((phaseHad k (cutTransmission s)).withTxe (s.txe.setQueue c rest)) := by
  simp [readBackDone, finishBroadcast, h]

theorem broadcastEnds_of {st : DoneStatus} {c : Cls} {f : TxFrame} {rest : List TxFrame} {s t u : State}
    (hu : u = complete st f (t.withTxe (s.txe.setQueue c rest))) (hd : t.dlt = s.dlt)
    (hn : t.sync = s.sync) (hh : t.hp = s.hp) : BroadcastEnds st c f rest s u := by
  subst hu
  refine ⟨⟨?_, fun d hd => ?_⟩, ?_, ?_, ?_⟩
  · simp [setQueue_queue]
  · simp [setQueue_queue, hd]
  · simp [hd]
  · simp [hd, hn]
  · rw [complete_isPending, show (t.withTxe _).isPending .doneReady = s.isPending .doneReady from
      isPending_congr (by simp [hh]) _]
    simp [hd, or_comm]

/-- Marks and faults behind the completion leave it as it is. -/
theorem BroadcastEnds.congr {st : DoneStatus} {c : Cls} {f : TxFrame} {rest : List TxFrame} {s t u : State}
    (h : BroadcastEnds st c f rest s t) (hq : ∀ d, u.txe.queue d = t.txe.queue d) (hd : u.dlt = t.dlt)
    (hp : u.isPending .doneReady = t.isPending .doneReady) : BroadcastEnds st c f rest s u where
  queue := by simpa only [hq] using h.queue
  entries := by rw [hd]; exact h.entries
  completion := by rw [hd]; exact h.completion
  doneReady := by rw [hp]; exact h.doneReady

/-- Settles O35: by the kind of frame and the result of the read-back. -/
theorem ownDataReadBack : Obligations.OwnDataReadBack := by
  refine ⟨fun k sent s h => ⟨?_, fun r hr => ⟨fun hc => ?_, fun hc hm ha => ?_⟩⟩,
    fun k sent c f rest s h hq => ⟨?_, fun r hr => ⟨fun hc => ?_, fun hc hm ha => ?_⟩⟩⟩
  · rw [ownDataReadBack_intact h, readBackDone_none]
    congr 1
    apply state_ext <;> simp [phaseClean_txe]
  · rw [ownDataReadBack_failed h hr, readBackDone_none, phaseCollision_marks (by exact hc)]
    congr 1
    apply state_ext <;> simp [recordFault_hp]
  · refine ⟨_, ownDataReadBack_failed h hr, ?_, by simp [readBackDone_none], fun c => ?_⟩
    · rw [readBackDone_none]
      exact conflictFrom_phaseCollision rfl rfl rfl rfl hc hm ha
    · rw [readBackDone_none, phaseCollision_relearns (by exact hc) (by exact hm) (by exact ha),
        (toRelearn_whole _ (by simpa using ha)).txe]
      apply queue_congr <;> simp
  · refine ⟨_, ownDataReadBack_intact h, ?_⟩
    have hb := broadcastEnds_of (t := phaseHad k (cutTransmission s)) (readBackDone_some (ok := true) hq) rfl rfl rfl
    refine ⟨hb.congr (fun d => ?_) (by simp) (isPending_congr (by simp) _), ?_⟩
    · rw [phaseClean_txe]; exact queue_congr rfl rfl rfl rfl d
    · simp [phaseClean_txe, readBackDone_some hq]
  · refine ⟨_, ownDataReadBack_failed h hr, ?_⟩
    have hb := broadcastEnds_of (t := phaseHad k (cutTransmission s)) (readBackDone_some (ok := false) hq) rfl rfl rfl
    have hc' : (readBackDone k (some c) false s).txe.conflict < 2 ∨
        (readBackDone k (some c) false s).txe.mark = .failed := by simpa [readBackDone_some hq] using hc
    rw [phaseCollision_marks hc']
    refine ⟨hb.congr (fun d => queue_congr rfl rfl rfl rfl d) (by simp) ?_, ?_⟩
    · refine (isPending_congr
        (s := recordFault .txCollision (.phase k) (readBackDone k (some c) false s)) rfl _).trans ?_
      rw [recordFault_isPending]; rfl
    · simp [readBackDone_some hq]
  · refine ⟨_, ownDataReadBack_failed h hr, ?_⟩
    have hb := broadcastEnds_of (t := phaseHad k (cutTransmission s)) (readBackDone_some (ok := false) hq) rfl rfl rfl
    have hc' : 2 ≤ (readBackDone k (some c) false s).txe.conflict := by simpa [readBackDone_some hq] using hc
    have hm' : (readBackDone k (some c) false s).txe.mark ≠ .failed := by simpa [readBackDone_some hq] using hm
    have ha' : (readBackDone k (some c) false s).sync.state = .active := by simpa [readBackDone_some hq] using ha
    refine ⟨?_, conflictFrom_phaseCollision ?_ ?_ ?_ ?_ hc' hm' ha'⟩
    · rw [phaseCollision_relearns hc' hm' ha']
      have hw := toRelearn_whole (recordFault .scheduleConflict (.phase k)
        (recordFault .txCollision (.phase k) (readBackDone k (some c) false s))) (by simpa using ha')
      refine hb.congr (fun d => ?_) (by rw [hw.dlt]; simp) ?_
      · rw [hw.txe]; apply queue_congr <;> simp
      · rw [toRelearn_isPending (by decide), recordFault_isPending, recordFault_isPending]; rfl
    all_goals simp [readBackDone_some hq]

end Sys2Proof.Machine

namespace Sys2Proof.Machine

/-! ## The cycle start (R14, R85, R89) -/

theorem ageRetryList_nil {s : State} (h : s.dlt.retry = []) : ageRetryList s = s := by
  have hd : { s.dlt with retry := [] } = s.dlt := by rw [← h]
  unfold ageRetryList
  rw [h, hd]; rfl

/-- R133: a cycle start with nothing to age leaves DLT and FRU as they are, and posts at most PATTERN_APPLIED. -/
theorem produceCycleStart_without_aging {s : State} (h : s.sync.state ≠ .active ∨ s.dlt.retry = []) :
    (produceCycleStart s).dlt = s.dlt ∧ (produceCycleStart s).fru = s.fru ∧ (produceCycleStart s).hp =
      if s.txe.applyPending then { s.hp with events := s.hp.events ||| Event.patternApplied.bit } else s.hp := by
  have hu : ∀ u : State, u.sync.state = s.sync.state → u.dlt = s.dlt →
      (if u.sync.state = .active then ageRetryList u else u) = u := by
    intro u hs hd
    split
    · exact ageRetryList_nil (by rw [hd]; exact h.resolve_left (by simp_all))
    · rfl
  unfold produceCycleStart; dsimp only
  rw [hu _ (by simp) (by simp)]
  unfold applyStaged
  split <;> simp_all

/-- R103: a pending pattern is announced. -/
theorem produceCycleStart_patternApplied {s : State} (h : s.txe.applyPending = true) :
    (produceCycleStart s).isPending .patternApplied = true := by
  unfold produceCycleStart applyStaged; dsimp only
  split <;> rw [if_pos (by simpa using h)] <;> simp

theorem foldMark_txe (s : State) : (foldMark s).txe = { s.txe with
    mark := .none
    conflict := match s.txe.mark with
      | .none => s.txe.conflict
      | .clean => 0
      | .failed => s.txe.conflict + 1 } := by
  unfold foldMark
  cases h : s.txe.mark <;> simp

/-- R14, R85: the next cycle, as it begins. -/
def nextCycle (s : State) : State :=
  produceCycleStart ((foldMark s).withSync { s.sync with cycleNumber := nextNumber s.sync.cycleNumber })

theorem cycleStart_untimed {s : State} (h : s.slotTiming = false) : exec .cycleStart s = .next s := by
  simp [exec, execCycleStart, h]

theorem cycleStart_vacant {s : State} (h : s.slotTiming = true) (hv : s.sync.holderVacant = true) :
    exec .cycleStart s = .next (suspend (foldMark s)) := by
  simp [exec, execCycleStart, h, hv]

theorem cycleStart_next {s : State} (h : s.slotTiming = true) (hv : s.sync.holderVacant = false) :
    exec .cycleStart s = .next (if s.sync.holder then sendMarker (nextCycle s) else nextCycle s) := by
  simp [exec, execCycleStart, h, hv, nextCycle]

theorem nextCycle_sync (s : State) : (nextCycle s).sync = { s.sync with
    cycleNumber := nextNumber s.sync.cycleNumber, markerDone := false, leaveSent := false, cycleShift := 0 } := by
  simp [nextCycle]

theorem nextCycle_txe (s : State) : (nextCycle s).txe = if s.txe.applyPending
    then { (foldMark s).txe with pattern := s.txe.staged, pointer := 0, applyPending := false }
    else (foldMark s).txe := by
  simp [nextCycle, foldMark_txe]

/-- R14, R44, R45, R88, R103, R112: the cycle start of a station that is not holder and has nothing to age. -/
theorem cycleStart_plain {n : Half} {s : State} (ht : s.slotTiming = true)
    (ha : s.sync.state ≠ .active ∨ s.dlt.retry = []) (hv : s.sync.holderVacant = false) (hh : s.sync.holder = false)
    (hn : s.sync.cycleNumber = some n) (hp : s.txe.applyPending = false) :
    exec .cycleStart s = .next { s with
      lif := { s.lif with rollDone := Vector.replicate 32 false, phaseDone := Vector.replicate 96 false }
      sync := { s.sync with
        cycleNumber := some (n + 1#16), markerDone := false, leaveSent := false, cycleShift := 0 }
      rcm := { s.rcm with record := Vector.replicate 32 none, tally := 0 }
      txe := (foldMark s).txe } := by
  obtain ⟨hd, hf, hhp⟩ := produceCycleStart_without_aging
    (s := (foldMark s).withSync { s.sync with cycleNumber := nextNumber s.sync.cycleNumber }) (by simpa using ha)
  rw [cycleStart_next ht hv, hh]
  congr 1
  apply state_ext <;> simp [nextCycle_sync, nextCycle_txe, hn, nextNumber, hp]
  all_goals simp [nextCycle, hd, hf, hhp, foldMark_txe, hp]

/-- Settles O36. -/
theorem cycleStartAdvancesOrSuspends : Obligations.CycleStartAdvancesOrSuspends := by
  refine ⟨⟨fun n s ht ha hv hh hn hp => ?_, fun s ht hv hp => ?_, fun s => cycleStart_untimed⟩,
    fun s ht hv => ?_, fun n s ht hv hh hn => ?_⟩
  · have hstep := cycleStart_plain ht ha hv hh hn hp
    rw [foldMark_txe] at hstep
    exact hstep
  · refine ⟨_, cycleStart_next ht hv, ?_⟩
    have hpend : (nextCycle s).isPending .patternApplied = true := produceCycleStart_patternApplied hp
    split
    · refine ⟨?_, ?_, ?_, ?_, (isPending_congr (by simp) _).trans hpend⟩ <;> simp [nextCycle_txe, hp, foldMark_txe]
    · refine ⟨?_, ?_, ?_, ?_, hpend⟩ <;> simp [nextCycle_txe, hp, foldMark_txe]
  · refine ⟨_, cycleStart_vacant ht hv, ?_⟩
    have forgets : s.ptu.forget.learnAttempts = s.ptu.learnAttempts ∧ s.ptu.forget.digest = none ∧
        ∀ k : Phase, s.ptu.forget.table[k] = .unknown := ⟨rfl, rfl, by simp [Ptu.forget]⟩
    obtain ⟨hla, hdig, htab⟩ := forgets
    have hsync : (suspend (foldMark s)).sync = { s.sync with
        cond := .suspended
        takeoverTimer := if s.sync.state = .active then .running ((s.own.val + 1) * 300) else s.sync.takeoverTimer
        listenTimer := if s.sync.state = .active then s.sync.listenTimer else .running 0 } := by
      rw [suspend_sync]
      split <;> simp_all [Config.takeoverDelay, Config.rollSlotBits, State.own]
    have hptu : (suspend (foldMark s)).ptu =
        if s.sync.state = .learning ∨ s.sync.state = .relearn then s.ptu.forget else s.ptu := by
      simp [suspend_ptu]
    refine ⟨hsync, by simp, ?_, fun hs => ?_, fun hs => ?_, by simp, by simp, by simp, by simp, by simp, by simp,
      by simp, by simp, by simp⟩ <;> rw [hptu]
    · split
      · exact hla
      · rfl
    · rw [if_neg]; rcases hs with hs | hs <;> simp [hs]
    · rw [if_pos hs]; exact ⟨hdig, htab⟩
  · refine ⟨_, ownMarker (nextCycle s), cycleStart_next ht hv, ?_⟩
    have hc : (nextCycle s).cycle = n + 1#16 := by simp [State.cycle, nextCycle_sync, hn, nextNumber]
    have hptu : (nextCycle s).ptu = s.ptu := by simp [nextCycle]
    have hcfg : (nextCycle s).cfg = s.cfg := by simp [nextCycle]
    rw [if_pos hh]
    refine ⟨by simp, by simp [nextCycle_sync, hn, nextNumber], hc, by simp [ownMarker, State.own, hcfg],
      by simp [ownMarker, hcfg], by simp [ownMarker, nextCycle], by simp [ownMarker, hptu, Ptu.digestValue],
      fun i => ?_,
      by simpa [nextCycle_sync] using hh, by simp [nextCycle_sync], by simp [hptu], by simp [nextCycle],
      by simp [nextCycle], by simp [hcfg]⟩
    simp [ownMarker, hc, hptu, segmentBytes, segmentOfCycle]

end Sys2Proof.Machine

namespace Sys2Proof.Machine

/-! ## The listen timer, the line-fault timer and the LEAVE (R17, R90, R92, R94) -/

theorem takeoverDelay_eq (a : Addr) : Config.takeoverDelay a = (a.val + 1) * 300 := rfl

theorem listenTimerExpiry_listening {n : Nat} {s : State} (hn : s.sync.listenTimer = .running n)
    (hs : s.sync.state = .listening) : exec .listenTimerExpiry s = .next { s with sync := { s.sync with
      listenTimer := .stopped, takeoverTimer := .running ((s.own.val + 1) * 300) } } := by
  simp [exec, execListenTimerExpiry, hn, Timer.runs, hs, takeoverDelay_eq]
  rfl

/-- R90, R94: in the states that learn or join. -/
theorem listenTimerExpiry_learner {n : Nat} {s : State} (hn : s.sync.listenTimer = .running n)
    (hs : s.sync.state = .learning ∨ s.sync.state = .joining ∨ s.sync.state = .relearn) :
    exec .listenTimerExpiry s =
      .next (if s.sync.withdrawPending then withdrawNow s else enterListening (closeEntries s)) := by
  have hl : s.sync.state ≠ .listening := by rcases hs with hs | hs | hs <;> simp [hs]
  simp [exec, execListenTimerExpiry, hn, Timer.runs, hl, hs]

/-- R31, R54, R93, R96, R122, R129, R140: entry to LISTENING with the retry entries closed. -/
theorem enterListening_closeEntries (s : State) : enterListening (closeEntries s) = { listeningFrom s with
    lif := s.lif
    dlt := { s.dlt with retry := s.dlt.retry.map fun e => { e with closed := true, due := none } } } := by
  apply state_ext <;> simp [listeningFrom, enterListening_sync, Sync.stop, Sync.reset, Ptu.forget, Ptu.reset, Rcm.clear,
    Rcm.reset]
  rfl

theorem lineFaultTimerExpiry_running {n : Nat} {s : State} (hn : s.lif.lineFaultTimer = .running n)
    (hl : s.sync.state.onLine = true) : exec .lineFaultTimerExpiry s =
      .next (withdrawNow (recordFault .lineFault .none
        { s with lif := { s.lif with lineFaultTimer := .stopped } })) := by
  rw [← fatal_onLine _ _ (by exact hl)]
  simp [exec, execLineFaultTimerExpiry, hn, Timer.runs]
  rfl

/-- R35, R94: the LEAVE. -/
def leaveWord (s : State) : RollWord :=
  { plainRollWord s false true false s.ptu.digestValue with acks := (s.rxe.acks.take 4).map ackEntry }

theorem ownRollSlot_leave {s : State} (ht : s.slotTiming = true) (hs : s.sync.state = .active ∨ s.sync.state = .relearn)
    (hw : s.sync.withdrawPending = true) : exec .ownRollSlot s = .next { s with
      lif := { s.lif with tx := some { frame := .roll (leaveWord s), bytes := (leaveWord s).bytes } }
      sync := { s.sync with leaveSent := true }
      rxe := { s.rxe with acks := s.rxe.acks.drop 4 } } := by
  have hsend : exec .ownRollSlot s = .next (sendLeave s) := by
    rcases hs with hs | hs <;> simp [exec, execOwnRollSlot, ht, hs, hw]
  exact hsend

/-- Settles O46. -/
theorem listenAndLineFaultTimersAndTheLeave : Obligations.ListenAndLineFaultTimersAndTheLeave := by
  refine ⟨⟨fun n s => listenTimerExpiry_listening, fun n s hn hs hw => ?_, fun n s hn hs hw => ?_, fun s hn => ?_⟩,
    ⟨fun n s hn hl => ⟨_, lineFaultTimerExpiry_running hn hl, withdrawNow_whole _⟩, fun s hn => ?_⟩,
    ⟨fun s ht hs hw => ?_, fun s hl => ⟨_, ?_, withdrawNow_whole s⟩, fun s hl => ?_⟩⟩
  · rw [listenTimerExpiry_learner hn hs, if_neg (by simp [hw]), enterListening_closeEntries]
  · exact ⟨_, by rw [listenTimerExpiry_learner hn (.inr (.inr hs)), if_pos hw], withdrawNow_whole s⟩
  · simp [exec, execListenTimerExpiry, hn, Timer.runs]
  · simp [exec, execLineFaultTimerExpiry, hn, Timer.runs]
  · exact ⟨leaveWord s, rfl, rfl, rfl, rfl, rfl, rfl, rfl, rfl, rfl, rfl, ownRollSlot_leave ht hs hw⟩
  · simp [exec, execLeaveSlotEnd, hl]
  · simp [exec, execLeaveSlotEnd, hl]

end Sys2Proof.Machine

namespace Sys2Proof.Machine

/-! ## Digits and bytes (R186, R187) -/

theorem packDigits_concat (b : Nat) (ds : List Nat) (d : Nat) :
    packDigits b (ds ++ [d]) = packDigits b ds * b + d := by
  simp [packDigits]

/-- The digits of a packed number, most significant first, are those that were packed. -/
theorem packDigits_digit {b : Nat} (ds : List Nat) (hd : ∀ d ∈ ds, d < b) (i : Nat) (hi : i < ds.length) :
    packDigits b ds / b ^ (ds.length - 1 - i) % b = ds[i] := by
  induction ds using List.reverseRecOn with
  | nil => simp at hi
  | append_singleton ds d ih =>
    have hdb : d < b := hd d (by simp)
    rw [packDigits_concat]
    by_cases h : i < ds.length
    · have he : (ds ++ [d]).length - 1 - i = (ds.length - 1 - i) + 1 := by simp; omega
      rw [he, pow_succ', ← Nat.div_div_eq_div_mul, Nat.mul_comm, Nat.mul_add_div (by omega), Nat.div_eq_of_lt hdb,
        Nat.add_zero, ih (fun x hx => hd x (by simp [hx])) h, List.getElem_append_left h]
    · have he : i = ds.length := by simp at hi; omega
      subst he
      simp [Nat.mod_eq_of_lt hdb]

theorem packDigits_lt {b : Nat} (ds : List Nat) (hd : ∀ d ∈ ds, d < b) : packDigits b ds < b ^ ds.length := by
  induction ds using List.reverseRecOn with
  | nil => simp [packDigits]
  | append_singleton ds d ih =>
    have hdb : d < b := hd d (by simp)
    have h := ih fun x hx => hd x (by simp [hx])
    rw [packDigits_concat, List.length_append, List.length_singleton, pow_succ]
    calc packDigits b ds * b + d < (packDigits b ds + 1) * b := by rw [Nat.add_mul]; omega
      _ ≤ b ^ ds.length * b := Nat.mul_le_mul_right b h

theorem unpackDigits_succ (b len n : Nat) : unpackDigits b (len + 1) n = unpackDigits b len (n / b) ++ [n % b] := by
  unfold unpackDigits
  rw [List.range_succ, List.map_append]
  congr 1
  · apply List.map_congr_left
    intro i hi
    have hi : i < len := List.mem_range.mp hi
    rw [show len + 1 - 1 - i = (len - 1 - i) + 1 by omega, pow_succ', Nat.div_div_eq_div_mul]
  · simp

theorem packDigits_unpackDigits (b len n : Nat) : packDigits b (unpackDigits b len n) = n % b ^ len := by
  induction len generalizing n with
  | zero => simp [unpackDigits, packDigits, Nat.mod_one]
  | succ len ih =>
    rw [unpackDigits_succ, packDigits_concat, ih, pow_succ', Nat.mod_mul]
    ring

@[simp] theorem natBytes_length (len n : Nat) : (natBytes len n).length = len := by
  simp [natBytes, unpackDigits]

theorem byteOf_toNat {n : Nat} (h : n < 256) : (byteOf n).toNat = n := by
  simp [byteOf]; omega

/-- Bytes that hold a number give it back. -/
theorem bytesNat_natBytes {len n : Nat} (h : n < 256 ^ len) : bytesNat (natBytes len n) = n := by
  have hm : (natBytes len n).map BitVec.toNat = unpackDigits 256 len n := by
    unfold natBytes
    rw [List.map_map]
    conv_rhs => rw [← List.map_id (unpackDigits 256 len n)]
    apply List.map_congr_left
    intro d hd
    obtain ⟨i, -, rfl⟩ := List.mem_map.mp hd
    exact byteOf_toNat (Nat.mod_lt _ (by omega))
  rw [bytesNat, hm, packDigits_unpackDigits, Nat.mod_eq_of_lt h]

theorem half_bytes (h : Half) : half (hiByte h) (loByte h) = h := by
  unfold half hiByte loByte
  apply BitVec.eq_of_getLsbD_eq
  intro i hi
  rw [BitVec.getLsbD_append, BitVec.getLsbD_extractLsb', BitVec.getLsbD_extractLsb']
  by_cases h8 : i < 8
  · simp [h8]
  · have h8' : i - 8 < 8 := by omega
    simp [h8, h8', show 8 + (i - 8) = i by omega]

/-! ## A start marker reads back (R187) -/

theorem flagDigits_lt (v : Vector Bool 32) : ∀ d ∈ v.toList.map Bool.toNat, d < 2 := by
  intro d hd
  obtain ⟨f, -, rfl⟩ := List.mem_map.mp hd
  exact Bool.toNat_lt f

theorem countDigits_lt (v : Vector Nat 32) : ∀ d ∈ v.toList.map (· % 8), d < 8 := by
  intro d hd
  obtain ⟨n, -, rfl⟩ := List.mem_map.mp hd
  exact Nat.mod_lt _ (by omega)

/-- R186: the flag of an address in an address set's bytes. -/
theorem addressSet_digit (v : Vector Bool 32) (a : Addr) :
    bytesNat (addressSet v) / 2 ^ (31 - a.val) % 2 = v[a].toNat := by
  have hlen : (v.toList.map Bool.toNat).length = 32 := by simp
  have hlt : packDigits 2 (v.toList.map Bool.toNat) < 256 ^ 4 := by
    simpa [hlen] using packDigits_lt _ (flagDigits_lt v)
  have hd := packDigits_digit _ (flagDigits_lt v) a.val (by rw [hlen]; exact a.isLt)
  rw [addressSet, bytesNat_natBytes hlt]
  simpa [hlen] using hd

/-- R187: the count of an address in the counts' bytes. -/
theorem countBytes_digit (v : Vector Nat 32) (a : Addr) :
    bytesNat (countBytes v) / 8 ^ (31 - a.val) % 8 = v[a] % 8 := by
  have hlen : (v.toList.map (· % 8)).length = 32 := by simp
  have hlt : packDigits 8 (v.toList.map (· % 8)) < 256 ^ 12 := by
    simpa [hlen] using packDigits_lt _ (countDigits_lt v)
  have hd := packDigits_digit _ (countDigits_lt v) a.val (by rw [hlen]; exact a.isLt)
  rw [countBytes, bytesNat_natBytes hlt]
  simpa [hlen] using hd

/-- R187: a presence map whose counts are 0..7 reads back from its flags and counts. -/
theorem presence_reads_back (p : Vector (Option Nat) 32)
    (hc : ∀ (a : Addr) (n : Nat), p[a] = some n → n ≤ 7) (a : Addr) :
    (if bytesNat (addressSet (presentFlags p)) / 2 ^ (31 - a.val) % 2 = 1 then
      some (bytesNat (countBytes (sentCounts p)) / 8 ^ (31 - a.val) % 8) else none) = p[a] := by
  rw [addressSet_digit, countBytes_digit]
  have hc := hc a
  cases hp : p[a] with
  | none => simp [presentFlags, show p[a.val] = none from hp]
  | some n =>
    have hn := hc n hp
    simp [presentFlags, sentCounts, show p[a.val] = some n from hp]
    omega

/-- R187: the fields of a marker's bytes, in order. -/
theorem marker_bytes_eq (m : Marker) :
    m.bytes = [0x3C#8, hiByte m.number, loByte m.number, finByte m.holder, byteOf m.limit] ++
      (addressSet (presentFlags m.presence) ++ (countBytes (sentCounts m.presence) ++
        ([hiByte m.digest, loByte m.digest] ++ (m.segment.toList ++ check16 m.body)))) := by
  simp [Marker.bytes, Marker.body, halfBytes]

@[simp] theorem addressSet_length (v : Vector Bool 32) : (addressSet v).length = 4 := natBytes_length ..

@[simp] theorem countBytes_length (v : Vector Nat 32) : (countBytes v).length = 12 := natBytes_length ..

theorem marker_bytes_length (m : Marker) : m.bytes.length = 37 := by
  rw [marker_bytes_eq]
  simp [check16, halfBytes]

theorem at'_append_right (l r : List Byte) (n i : Nat) (h : l.length = n) : at' (l ++ r) (n + i) = at' r i := by
  simp [at', List.getElem?_append_right, h]

theorem markerPresence_bytes (m : Marker) (hc : ∀ (a : Addr) (n : Nat), m.presence[a] = some n → n ≤ 7) :
    markerPresence m.bytes = m.presence := by
  rw [marker_bytes_eq]
  unfold markerPresence
  apply Vector.ext
  intro i hi
  rw [getElem_tab]
  simpa [List.drop_append, List.take_append] using presence_reads_back m.presence hc ⟨i, hi⟩

theorem parseMarker_bytes (m : Marker) (h2 : 2 ≤ m.limit) (h7 : m.limit ≤ 7)
    (hc : ∀ (a : Addr) (n : Nat), m.presence[a] = some n → n ≤ 7) : parseMarker m.bytes = some m := by
  have hlimit : (byteOf m.limit).toNat = m.limit := byteOf_toNat (by omega)
  have hparts : at' m.bytes 0 = 0x3C#8 ∧ at' m.bytes 1 = hiByte m.number ∧ at' m.bytes 2 = loByte m.number ∧
      at' m.bytes 3 = finByte m.holder ∧ at' m.bytes 4 = byteOf m.limit := by
    rw [marker_bytes_eq]; exact ⟨rfl, rfl, rfl, rfl, rfl⟩
  have hback : ∀ i, at' m.bytes (21 + i) =
      at' ([hiByte m.digest, loByte m.digest] ++ (m.segment.toList ++ check16 m.body)) i := by
    intro i
    rw [marker_bytes_eq, ← List.append_assoc, ← List.append_assoc]
    exact at'_append_right _ _ _ _ (by simp)
  have hsegment : ∀ i : Fin 12, at' m.bytes (23 + i.val) = m.segment[i] := by
    intro i
    rw [show 23 + i.val = 21 + (2 + i.val) by omega, hback, at'_append_right _ _ 2 _ rfl]
    simp [at', List.getElem?_append_left]
  have hd1 : at' m.bytes 21 = hiByte m.digest := hback 0
  have hd2 : at' m.bytes 22 = loByte m.digest := hback 1
  obtain ⟨hkind, hn1, hn2, hholder, hlim⟩ := hparts
  unfold parseMarker
  rw [if_pos ⟨marker_bytes_length m, hkind, check16Ok_append _⟩, hholder, addrOf_finByte]
  simp only [hlim, hlimit, hn1, hn2, hd1, hd2, half_bytes, markerPresence_bytes m hc]
  rw [if_pos ⟨h2, h7⟩]
  congr 2
  apply Vector.ext
  intro i hi
  rw [getElem_tab]
  exact hsegment ⟨i, hi⟩

end Sys2Proof.Machine

namespace Sys2Proof.Machine

/-! ## Roll word and data frame read back (R188, R189) -/

/-- R188: the bits of the flags byte. -/
theorem RollWord.flags_bits (w : RollWord) :
    w.flags.getLsbD 7 = w.join ∧ w.flags.getLsbD 6 = w.leave ∧ w.flags.getLsbD 5 = w.releaseAll ∧
      w.flags.getLsbD 4 = w.relearning ∧ w.flags.getLsbD 3 = w.degraded := by
  have all : ∀ a b c d e : Bool, ∀ f : Byte,
      f = (if a then 0x80#8 else 0#8) ||| (if b then 0x40#8 else 0#8) ||| (if c then 0x20#8 else 0#8)
        ||| (if d then 0x10#8 else 0#8) ||| (if e then 0x08#8 else 0#8) →
      f.getLsbD 7 = a ∧ f.getLsbD 6 = b ∧ f.getLsbD 5 = c ∧ f.getLsbD 4 = d ∧ f.getLsbD 3 = e := by
    rintro a b c d e f rfl
    revert a b c d e
    decide
  exact all _ _ _ _ _ _ rfl

@[simp] theorem ackBytes_length (acks : List (Byte × Byte)) : (ackBytes acks).length = 2 * acks.length := by
  induction acks with
  | nil => rfl
  | cons p acks ih =>
    simp only [ackBytes, List.flatMap_cons, List.length_append, List.length_cons, List.length_nil] at ih ⊢
    omega

theorem bytePairs_ackBytes (acks : List (Byte × Byte)) : bytePairs (ackBytes acks) = acks := by
  induction acks with
  | nil => rfl
  | cons p acks ih =>
    change p :: bytePairs (ackBytes acks) = p :: acks
    rw [ih]

/-- R188: the fields of a roll word's bytes, in order. -/
theorem rollWord_bytes_eq (w : RollWord) :
    w.bytes = [0x5A#8, w.sender, w.flags, hiByte w.digest, loByte w.digest,
      byteOf (w.claims.length * 16 + w.releases.length), byteOf w.acks.length] ++
        (w.claims ++ (w.releases ++ (ackBytes w.acks ++ check16 w.body))) := by
  simp [RollWord.bytes, RollWord.body, halfBytes]

theorem rollWord_bytes_length (w : RollWord) :
    w.bytes.length = 9 + w.claims.length + w.releases.length + 2 * w.acks.length := by
  rw [rollWord_bytes_eq]
  simp [check16, halfBytes]
  omega

theorem parseRollWord_bytes (w : RollWord) (hc : w.claims.length ≤ 8) (hr : w.releases.length ≤ 8)
    (ha : w.acks.length ≤ 4) : parseRollWord w.bytes = some w := by
  obtain ⟨h7, h6, h5, h4, h3⟩ := w.flags_bits
  have hhead : ∀ i, i < 7 → at' w.bytes i = at' [0x5A#8, w.sender, w.flags, hiByte w.digest, loByte w.digest,
      byteOf (w.claims.length * 16 + w.releases.length), byteOf w.acks.length] i := by
    intro i hi
    rw [rollWord_bytes_eq, at', at', List.getD_append _ _ _ _ (by simpa using hi)]
  have hcounts : (at' w.bytes 5).toNat = w.claims.length * 16 + w.releases.length := by
    rw [hhead 5 (by omega)]; exact byteOf_toNat (by omega)
  have hacks : (at' w.bytes 6).toNat = w.acks.length := by
    rw [hhead 6 (by omega)]; exact byteOf_toNat (by omega)
  have hnc : (at' w.bytes 5).toNat / 16 = w.claims.length := by omega
  have hnr : (at' w.bytes 5).toNat % 16 = w.releases.length := by omega
  have hna : (at' w.bytes 6).toNat % 16 = w.acks.length := by omega
  have hclaims : (w.bytes.drop 7).take w.claims.length = w.claims := by
    rw [rollWord_bytes_eq]
    simp
  have hreleases : (w.bytes.drop (7 + w.claims.length)).take w.releases.length = w.releases := by
    rw [rollWord_bytes_eq, ← List.drop_drop]
    simp
  have hpairs : bytePairs ((w.bytes.drop (7 + w.claims.length + w.releases.length)).take (2 * w.acks.length)) =
      w.acks := by
    rw [rollWord_bytes_eq, ← List.drop_drop, ← List.drop_drop]
    simp [bytePairs_ackBytes]
  unfold parseRollWord
  simp only [hnc, hnr, hna]
  rw [if_pos ⟨hhead 0 (by omega), hc, hr, ha, rollWord_bytes_length w, check16Ok_append _⟩, hclaims, hreleases, hpairs,
    hhead 1 (by omega), hhead 2 (by omega), hhead 3 (by omega), hhead 4 (by omega)]
  change some { w with
    join := w.flags.getLsbD 7, leave := w.flags.getLsbD 6, releaseAll := w.flags.getLsbD 5,
    relearning := w.flags.getLsbD 4, degraded := w.flags.getLsbD 3,
    digest := half (hiByte w.digest) (loByte w.digest) } = some w
  rw [h7, h6, h5, h4, h3, half_bytes]

/-- R189: the fields of a data frame's bytes, in order. -/
theorem dataFrame_bytes_eq (f : DataFrame) :
    f.bytes = [0x96#8, f.source, f.dest, f.cls, f.seq, byteOf f.payload.length] ++ (f.payload ++ check32 f.body) := by
  simp [DataFrame.bytes, DataFrame.body]

theorem dataFrame_bytes_length (f : DataFrame) : f.bytes.length = 10 + f.payload.length := by
  rw [dataFrame_bytes_eq]
  simp [check32]
  omega

theorem parseDataFrame_bytes (f : DataFrame) (hl : f.payload.length ≤ 60) (h4 : f.payload.length % 4 = 0) :
    parseDataFrame f.bytes = some f := by
  have hhead : ∀ i, i < 6 → at' f.bytes i =
      at' [0x96#8, f.source, f.dest, f.cls, f.seq, byteOf f.payload.length] i := by
    intro i hi
    rw [dataFrame_bytes_eq, at', at', List.getD_append _ _ _ _ (by simpa using hi)]
  have hlen : (at' f.bytes 5).toNat = f.payload.length := by
    rw [hhead 5 (by omega)]; exact byteOf_toNat (by omega)
  have hpayload : (f.bytes.drop 6).take f.payload.length = f.payload := by
    rw [dataFrame_bytes_eq]
    simp
  unfold parseDataFrame
  simp only [hlen]
  rw [if_pos ⟨hhead 0 (by omega), hl, h4, dataFrame_bytes_length f, check32Ok_append _⟩, hpayload,
    hhead 1 (by omega), hhead 2 (by omega), hhead 3 (by omega), hhead 4 (by omega)]
  rfl

/-! ## The bits on the line (R2) -/

theorem lineBits_append (a b : List Byte) : lineBits (a ++ b) = lineBits a ++ lineBits b := by
  simp [lineBits]

@[simp] theorem lineBits_length (b : List Byte) : (lineBits b).length = 8 * b.length := by
  induction b with
  | nil => rfl
  | cons x b ih =>
    simp only [lineBits, List.flatMap_cons, List.length_append, byteBits_length, List.length_cons] at ih ⊢
    omega

theorem lineBits_cons (x : Byte) (b : List Byte) : lineBits (x :: b) = byteBits x ++ lineBits b := rfl

/-- R2: bit `j` of byte `i`, each byte most significant bit first. -/
theorem lineBits_get (b : List Byte) (i j : Nat) (h : i < b.length) (hj : j < 8) :
    (lineBits b)[8 * i + j]? = some (b[i].getLsbD (7 - j)) := by
  induction b generalizing i with
  | nil => simp at h
  | cons x b ih =>
    rw [lineBits_cons]
    cases i with
    | zero =>
      rw [List.getElem?_append_left (by simp; omega), Nat.mul_zero, Nat.zero_add]
      exact byteBits_get x ⟨j, hj⟩
    | succ i =>
      rw [List.getElem?_append_right (by simp; omega), byteBits_length, show 8 * (i + 1) + j - 8 = 8 * i + j by omega]
      exact ih i (by simpa using h)

@[simp] theorem lineBytes_length (x : TxRecord) : x.lineBytes.length = 2 + x.bytes.length := by
  simp [TxRecord.lineBytes]; omega

/-- R2: bit `j` of byte `i` of what a transmission sends is driven in bit time `8 + 8 * i + j`. -/
theorem drivenBit_byte (x : TxRecord) (i j : Nat) (h : i < x.lineBytes.length) (hj : j < 8) :
    x.drivenBit (8 + 8 * i + j) = some (x.lineBytes[i].getLsbD (7 - j)) := by
  unfold TxRecord.drivenBit
  rw [if_neg (by simp [Config.driveOffset]; omega),
    show 8 + 8 * i + j - Config.driveOffset = 8 * i + j by simp [Config.driveOffset]; omega]
  exact lineBits_get _ _ _ h hj

theorem drivenBit_isSome (x : TxRecord) (t : Nat) :
    (x.drivenBit t).isSome = true ↔ 8 ≤ t ∧ t < 24 + 8 * x.bytes.length := by
  unfold TxRecord.drivenBit
  by_cases h : t < Config.driveOffset
  · rw [if_pos h]
    simp [Config.driveOffset] at h ⊢
    omega
  · rw [if_neg h]
    simp [Config.driveOffset] at h ⊢
    omega

theorem drivenBit_of_tx {x : TxRecord} {s : State} (h : s.lif.tx = some x) (t : Nat) :
    s.drivenBit t = x.drivenBit t := by
  simp [State.drivenBit, h]

/-- Settles O48: each layout read field by field, and the bits by their place in the bytes sent. -/
theorem lineFormatsRoundTrip : Obligations.LineFormatsRoundTrip := by
  refine ⟨fun m h2 h7 hc => ⟨marker_bytes_length m, parseMarker_bytes m h2 h7 hc⟩,
    fun w hc hr ha => ⟨rollWord_bytes_length w, parseRollWord_bytes w hc hr ha⟩,
    fun f hl h4 => ⟨dataFrame_bytes_length f, parseDataFrame_bytes f hl h4⟩,
    fun s h t => by simp [State.driving, State.drivenBit, h], fun x s h => ⟨?span, ?released, ?start, ?bytes⟩⟩
  case span =>
    intro t
    rw [State.driving, drivenBit_of_tx h]
    exact drivenBit_isSome x t
  case released =>
    intro t hd
    simpa [State.driving] using hd
  case start =>
    intro j hj
    rw [drivenBit_of_tx h, drivenBit_of_tx h]
    exact ⟨drivenBit_byte x 0 j (by simp) hj, drivenBit_byte x 1 j (by simp; omega) hj⟩
  case bytes =>
    intro i j hi hj
    rw [drivenBit_of_tx h, show 24 + 8 * i + j = 8 + 8 * (2 + i) + j by omega,
      drivenBit_byte x (2 + i) j (by simpa using hi) hj]
    simp only [TxRecord.lineBytes, Nat.add_comm 2 i]
    rfl

end Sys2Proof.Machine

namespace Sys2Proof.Machine

/-! ## Whole bytes of bits -/

theorem bitBytes_step {l : List Bool} (h : 8 ≤ l.length) :
    bitBytes l = byteOfBits (l.take 8) :: bitBytes (l.drop 8) := by
  unfold bitBytes
  have hn : l.length / 8 = (l.drop 8).length / 8 + 1 := by simp; omega
  rw [hn, List.range_succ_eq_map, List.map_cons, List.map_map]
  simp [Function.comp_def, List.drop_drop, Nat.mul_add, Nat.add_comm]

theorem bitBytes_short {l : List Bool} (h : l.length < 8) : bitBytes l = [] := by
  simp [bitBytes, Nat.div_eq_of_lt h]

theorem bitBytes_lineBits (b : List Byte) : bitBytes (lineBits b) = b := by
  induction b with
  | nil => rfl
  | cons x b ih =>
    rw [bitBytes_step (by simp), lineBits_cons, List.take_left' (byteBits_length x),
      List.drop_left' (byteBits_length x),
      byteOfBits_byteBits, ih]

/-- The bytes that bits make are those bits, up to the last whole byte. -/
theorem lineBits_bitBytes (l : List Bool) : lineBits (bitBytes l) = l.take (8 * (l.length / 8)) := by
  induction hn : l.length / 8 generalizing l with
  | zero => rw [bitBytes_short (by omega)]; rfl
  | succ n ih =>
    have h8 : 8 ≤ l.length := by omega
    rw [bitBytes_step h8, lineBits_cons, byteBits_byteOfBits _ (by simp [h8]), ih _ (by simp; omega),
      show 8 * (n + 1) = 8 + 8 * n by omega, List.take_add]

theorem lineBits_take (b : List Byte) (n : Nat) : lineBits (b.take n) = (lineBits b).take (8 * n) := by
  induction b generalizing n with
  | nil => simp [lineBits]
  | cons x b ih =>
    cases n with
    | zero => simp [lineBits]
    | succ n =>
      rw [List.take_succ_cons, lineBits_cons, lineBits_cons, ih, show 8 * (n + 1) = 8 + 8 * n by omega,
        List.take_add, List.take_left' (byteBits_length x), List.drop_left' (byteBits_length x)]

/-! ## What a reception is (R5) -/

theorem frameLength_of_marker {b : List Byte} {m : Marker} (h : parseMarker b = some m) :
    frameLength b = some b.length := by
  unfold parseMarker at h
  split at h
  · rename_i hc
    simp [frameLength, hc.2.1, hc.1]
  · cases h

theorem frameLength_of_rollWord {b : List Byte} {w : RollWord} (h : parseRollWord b = some w) :
    frameLength b = some b.length := by
  unfold parseRollWord at h
  dsimp only at h
  split at h
  · rename_i hc
    obtain ⟨hk, hnc, hnr, hna, hl, -⟩ := hc
    simp [frameLength, hk, hnc, hnr, hna, hl]
  · cases h

theorem frameLength_of_dataFrame {b : List Byte} {f : DataFrame} (h : parseDataFrame b = some f) :
    frameLength b = some b.length := by
  unfold parseDataFrame at h
  dsimp only at h
  split at h
  · rename_i hc
    obtain ⟨hk, hn, h4, hl, -⟩ := hc
    simp [frameLength, hk, hn, h4, hl]
  · cases h

theorem intactFrame_iff (b : List Byte) : intactFrame b = true ↔
    (∃ m, parseMarker b = some m) ∨ (∃ w, parseRollWord b = some w) ∨ ∃ f, parseDataFrame b = some f := by
  simp only [intactFrame, Bool.or_eq_true, Option.isSome_iff_exists, or_assoc]

/-- R5: the own fields of an intact frame fix its length. -/
theorem frameLength_of_intact {b : List Byte} (h : intactFrame b = true) : frameLength b = some b.length := by
  rcases (intactFrame_iff b).mp h with ⟨m, hm⟩ | ⟨w, hw⟩ | ⟨f, hf⟩
  · exact frameLength_of_marker hm
  · exact frameLength_of_rollWord hw
  · exact frameLength_of_dataFrame hf

theorem takeWhile_beq_eq_replicate {α : Type} [DecidableEq α] (a : α) (l : List α) :
    ∃ n, l.takeWhile (· == a) = List.replicate n a :=
  ⟨_, List.eq_replicate_iff.mpr ⟨rfl, fun x hx => by simpa using List.mem_takeWhile_imp hx⟩⟩

theorem dropWhile_beq_replicate {α : Type} [DecidableEq α] (a : α) (n : Nat) (l : List α) :
    (List.replicate n a ++ l).dropWhile (· == a) = l.dropWhile (· == a) :=
  List.dropWhile_append_of_pos fun x hx => by simp [List.eq_of_mem_replicate hx]

/-- R5: the line is idle again behind a frame where the next 4 bit times are violations, then idle ones. -/
theorem idleAgain_iff (rest : List LineBit) : idleAgain rest = true ↔
    ∃ i j : Nat, 1 ≤ j ∧ rest.take 4 = List.replicate i .violation ++ List.replicate j .idle := by
  unfold idleAgain
  dsimp only
  constructor
  · intro h
    rw [Bool.and_eq_true, Bool.not_eq_true', List.isEmpty_eq_false_iff, List.all_eq_true] at h
    obtain ⟨hne, hidle⟩ := h
    obtain ⟨i, hi⟩ := takeWhile_beq_eq_replicate LineBit.violation (rest.take 4)
    refine ⟨i, _, List.length_pos_iff.mpr hne, ?_⟩
    conv_lhs => rw [← List.takeWhile_append_dropWhile (p := (· == LineBit.violation)) (l := rest.take 4), hi]
    exact congrArg _ (List.eq_replicate_iff.mpr ⟨rfl, fun x hx => by simpa using hidle x hx⟩)
  · rintro ⟨i, j, hj, h⟩
    obtain ⟨j, rfl⟩ : ∃ n, j = n + 1 := ⟨j - 1, by omega⟩
    rw [h, dropWhile_beq_replicate]
    simp [List.replicate_succ]

/-- The bits of bit times that carry one. -/
theorem bits_of_values {l : List LineBit} (h : ∀ x ∈ l, x.value.isSome = true) :
    (l.filterMap LineBit.value).map .bit = l := by
  induction l with
  | nil => rfl
  | cons x l ih =>
    have hx := h x (by simp)
    cases x with
    | bit v => simp [LineBit.value, ih fun y hy => h y (by simp [hy])]
    | idle => cases hx
    | violation => cases hx

theorem values_of_bits (v : List Bool) : (v.map LineBit.bit).filterMap LineBit.value = v := by
  induction v with
  | nil => rfl
  | cons x v ih => simp [LineBit.value, ih]

theorem receive_idle {line : List LineBit} (h : ∀ x ∈ line, x = .idle) : receive line = .nothing := by
  have hd : line.dropWhile (· == .idle) = [] := List.dropWhile_eq_nil_iff.mpr fun x hx => by simp [h x hx]
  simp [receive, hd]

theorem receive_eq_nothing (line : List LineBit) : receive line = .nothing ↔ ∀ x ∈ line, x = .idle := by
  refine ⟨fun h => ?_, receive_idle⟩
  by_cases hd : line.dropWhile (· == .idle) = []
  · intro x hx
    simpa using List.dropWhile_eq_nil_iff.mp hd x hx
  · exfalso
    unfold receive at h
    dsimp only at h
    rw [if_neg (by simpa using hd)] at h
    (repeat' split at h) <;> cases h

/-- Idle bit times in front change nothing of what is received. -/
theorem receive_behind_idle (n : Nat) (line : List LineBit) :
    receive (List.replicate n .idle ++ line) = receive line := by
  unfold receive
  rw [dropWhile_beq_replicate]

/-- R5: the preamble, the delimiter and an intact frame, with the line idle again behind, are received as that frame. -/
theorem receive_frame {b : List Byte} (hb : intactFrame b = true) {behind : List LineBit}
    (hidle : idleAgain behind = true) :
    receive ((lineBits ([0xAA#8, 0xB3#8] ++ b)).map .bit ++ behind) = .bytes b := by
  have hstart : ((lineBits ([0xAA#8, 0xB3#8] ++ b)).map LineBit.bit ++ behind).dropWhile (· == .idle) =
      (lineBits ([0xAA#8, 0xB3#8] ++ b)).map .bit ++ behind := rfl
  have hend : behind.takeWhile (fun x => x.value.isSome) = [] := by
    obtain ⟨i, j, hj, h⟩ := (idleAgain_iff behind).mp hidle
    obtain ⟨j, rfl⟩ : ∃ n, j = n + 1 := ⟨j - 1, by omega⟩
    cases behind with
    | nil => rfl
    | cons x rest => cases i <;> simp [List.replicate_succ] at h <;> simp [h.1, LineBit.value]
  have hbits : ((lineBits ([0xAA#8, 0xB3#8] ++ b)).map LineBit.bit ++ behind).takeWhile (fun x => x.value.isSome) =
      (lineBits ([0xAA#8, 0xB3#8] ++ b)).map .bit := by
    rw [List.takeWhile_append_of_pos (fun x hx => by obtain ⟨v, -, rfl⟩ := List.mem_map.mp hx; rfl), hend,
      List.append_nil]
  unfold receive
  dsimp only
  rw [hstart, if_neg (by simp [lineBits, byteBits]), hbits, values_of_bits, bitBytes_lineBits]
  rw [show [0xAA#8, 0xB3#8] ++ b = 0xAA#8 :: 0xB3#8 :: b from rfl]
  simp only [frameLength_of_intact hb]
  rw [List.take_length, List.drop_left' (by simp; omega), if_pos ⟨trivial, trivial, le_refl _, hb, hidle⟩]

/-- Bit times that each carry a bit, as far as whole bytes go, are the bits of those bytes. -/
theorem lineBits_of_run {run : List LineBit} (h : ∀ x ∈ run, x.value.isSome = true) {n : Nat}
    (hn : n ≤ (bitBytes (run.filterMap LineBit.value)).length) :
    (lineBits ((bitBytes (run.filterMap LineBit.value)).take n)).map .bit = run.take (8 * n) ∧ 8 * n ≤ run.length := by
  have hrun := bits_of_values h
  generalize run.filterMap LineBit.value = v at hn hrun
  subst hrun
  have hlen : (bitBytes v).length = v.length / 8 := by simp [bitBytes]
  rw [lineBits_take, lineBits_bitBytes, List.take_take, Nat.min_eq_left (by omega), List.map_take, List.length_map]
  exact ⟨rfl, by omega⟩

/-- R5: what is received as a frame stands on the line bit by bit behind its preamble and delimiter. -/
theorem receive_bytes_form {line : List LineBit} {b : List Byte} (h : receive line = .bytes b) :
    intactFrame b = true ∧ ∃ (p : Nat) (behind : List LineBit), idleAgain behind = true ∧
      line = List.replicate p .idle ++ (lineBits ([0xAA#8, 0xB3#8] ++ b)).map .bit ++ behind := by
  obtain ⟨p, hp⟩ := takeWhile_beq_eq_replicate LineBit.idle line
  generalize hact : line.dropWhile (· == .idle) = activity
  have hline : line = List.replicate p .idle ++ activity := by
    rw [← hp, ← hact, List.takeWhile_append_dropWhile]
  unfold receive at h
  dsimp only at h
  rw [hact] at h
  generalize hrun : activity.takeWhile (fun x => x.value.isSome) = run at h
  split at h
  · cases h
  split at h
  · rename_i d e rest hbytes
    split at h
    · cases h
    split at h
    · rename_i n _ hc
      obtain ⟨rfl, rfl, hn, hb, hidle⟩ := hc
      obtain rfl : rest.take n = b := by simpa using h
      have hvalues : ∀ x ∈ run, x.value.isSome = true := by
        intro x hx
        rw [← hrun] at hx
        simpa using List.mem_takeWhile_imp hx
      obtain ⟨hbits, hlong⟩ := lineBits_of_run hvalues (n := n + 2) (by rw [hbytes]; simp; omega)
      rw [hbytes] at hbits
      have hprefix : run.take (8 * (n + 2)) = activity.take (8 * (n + 2)) := by
        have hr : run = activity.take run.length := List.prefix_iff_eq_take.mp (hrun ▸ List.takeWhile_prefix _)
        rw [hr, List.take_take, Nat.min_eq_left hlong]
      refine ⟨hb, p, activity.drop (16 + 8 * n), hidle, ?_⟩
      rw [hline, List.append_assoc, show 16 + 8 * n = 8 * (n + 2) by omega]
      congr 1
      conv_lhs => rw [← List.take_append_drop (8 * (n + 2)) activity, ← hprefix, ← hbits]
      rfl
    · cases h
  · cases h

end Sys2Proof.Machine

namespace Sys2Proof.Machine

/-! ## A stretch of the line -/

theorem between_eq (line : Line) (a b : Int) :
    line.between a b = (List.range (b - a).toNat).map fun i : Nat => line (a + i) := by
  simp [Line.between, ← List.map_eq_flatMap]

@[simp] theorem between_length (line : Line) (a b : Int) : (line.between a b).length = (b - a).toNat := by
  simp [between_eq]

theorem between_get (line : Line) {a b : Int} {i : Nat} (h : a + i < b) :
    (line.between a b)[i]? = some (line (a + i)) := by
  have hi : i < (b - a).toNat := by omega
  simp [between_eq, hi]

theorem between_empty (line : Line) {a b : Int} (h : b ≤ a) : line.between a b = [] := by
  rw [← List.length_eq_zero_iff, between_length]; omega

theorem mem_between {line : Line} {a b : Int} {x : LineBit} :
    x ∈ line.between a b ↔ ∃ j : Int, a ≤ j ∧ j < b ∧ line j = x := by
  simp only [between_eq, List.mem_map, List.mem_range]
  constructor
  · rintro ⟨i, hi, rfl⟩
    exact ⟨a + i, by omega, by omega, rfl⟩
  · rintro ⟨j, ha, hb, rfl⟩
    exact ⟨(j - a).toNat, by omega, congrArg line (by omega)⟩

theorem between_append (line : Line) {a b c : Int} (hab : a ≤ b) (hbc : b ≤ c) :
    line.between a b ++ line.between b c = line.between a c := by
  rw [between_eq, between_eq, between_eq, show (c - a).toNat = (b - a).toNat + (c - b).toNat by omega,
    List.range_add, List.map_append, List.map_map]
  congr 1
  apply List.map_congr_left
  intro i _
  simp only [Function.comp_apply]
  congr 1
  omega

theorem between_cons (line : Line) {a b : Int} (h : a < b) : line.between a b = line a :: line.between (a + 1) b := by
  rw [← between_append line (show a ≤ a + 1 by omega) (show a + 1 ≤ b by omega)]
  simp [between_eq]

theorem between_idle {line : Line} {a b : Int} (h : ∀ j : Int, a ≤ j → j < b → line j = .idle) :
    line.between a b = List.replicate (b - a).toNat .idle := by
  refine List.eq_replicate_iff.mpr ⟨between_length .., fun x hx => ?_⟩
  obtain ⟨j, ha, hb, rfl⟩ := mem_between.mp hx
  exact h j ha hb

/-! ## The reception of a slot (R5) -/

theorem carried_of_idle {line : Line} {a : Int} (h : line a = .idle) : line.carried a = [] := by
  simp [Line.carried, h]

/-- R5: activity on the line at `a` since `p`, at most 8 bit times before, is carried into the slot. -/
theorem carried_since {line : Line} {a p : Int} (hfar : a - 8 ≤ p) (hpa : p ≤ a) (hidle : line (p - 1) = .idle)
    (hactive : ∀ j : Int, p ≤ j → j ≤ a → line j ≠ .idle) : line.carried a = line.between p a := by
  have hback : line.between (a - (Config.preambleBits + 1)) a =
      line.between (a - (Config.preambleBits + 1)) (p - 1) ++ ([line (p - 1)] ++ line.between p a) := by
    rw [show (a - (Config.preambleBits + 1) : Int) = a - 9 by simp [Config.preambleBits]]
    rw [← between_append line (show a - 9 ≤ p - 1 by omega) (show p - 1 ≤ a by omega),
      between_cons line (show p - 1 < a by omega), Int.sub_add_cancel]
    rfl
  rw [Line.carried, if_neg (hactive a hpa le_rfl), hback, List.reverse_append, List.reverse_append, List.append_assoc,
    List.takeWhile_append_of_pos]
  · simp [hidle]
  · intro x hx
    obtain ⟨j, hp, ha, rfl⟩ := mem_between.mp (List.mem_reverse.mp hx)
    simpa using hactive j hp ha.le

theorem carried_long {line : Line} {a : Int} (h : ∀ j : Int, a - 9 ≤ j → j ≤ a → line j ≠ .idle) :
    (line.carried a).length = 9 := by
  rw [Line.carried, if_neg (h a (by omega) le_rfl), List.length_reverse, List.takeWhile_eq_self_iff.mpr]
  · simp [Config.preambleBits]
  · intro x hx
    obtain ⟨j, hp, ha, rfl⟩ := mem_between.mp (List.mem_reverse.mp hx)
    simpa using h j (by simpa [Config.preambleBits] using hp) ha.le

theorem reception_idle {line : Line} {a b : Int} (h : ∀ j : Int, a ≤ j → j < b → line j = .idle) (hab : a < b) :
    line.reception a b = .nothing := by
  rw [Line.reception, carried_of_idle (h a le_rfl hab), between_idle h]
  exact receive_idle fun x hx => List.eq_of_mem_replicate hx

/-- R5: activity too short for a preamble and a delimiter is damaged. -/
theorem receive_short {line : List LineBit} (hl : line.length < 16) (ha : ∃ x ∈ line, x ≠ .idle) :
    receive line = .damaged := by
  cases h : receive line with
  | nothing =>
    obtain ⟨x, hx, hne⟩ := ha
    exact absurd ((receive_eq_nothing line).mp h x hx) hne
  | damaged => rfl
  | bytes b =>
    obtain ⟨-, p, behind, -, rfl⟩ := receive_bytes_form h
    simp at hl
    omega

theorem reception_of_activity {line : Line} {a b p : Int} (h : ActivityFrom line a b p) :
    line.reception a b = receive (line.between p b) ∧ line.reference a b = p + 8 := by
  obtain ⟨⟨hfar, hpb⟩, hactive, hcarried, hfirst⟩ := h
  by_cases hap : a < p
  · have hc : line.carried a = [] := carried_of_idle (hfirst a le_rfl hap)
    have hb : line.between a b = List.replicate (p - a).toNat .idle ++ line.between p b := by
      rw [← between_idle hfirst, between_append line hap.le hpb.le]
    have hw : ((line.between a b).takeWhile (· == .idle)).length = (p - a).toNat := by
      rw [hb, between_cons line hpb, List.takeWhile_append_of_pos fun x hx => by simp [List.eq_of_mem_replicate hx]]
      simp [hactive]
    refine ⟨?_, ?_⟩
    · rw [Line.reception, hc, hb, if_neg (by simp)]
      exact receive_behind_idle _ _
    · rw [Line.reference, hc, hw]
      simp [Config.preambleBits]
      omega
  · have hpa : p ≤ a := by omega
    obtain ⟨hbefore, hsince⟩ := hcarried hpa
    have hc := carried_since hfar hpa hbefore hsince
    have hw : (line.between a b).takeWhile (· == .idle) = [] := by
      by_cases hab : a < b
      · rw [between_cons line hab]
        simp [hsince a hpa le_rfl]
      · rw [between_empty line (by omega)]; rfl
    refine ⟨?_, ?_⟩
    · rw [Line.reception, hc, if_neg (by simp [Config.preambleBits]; omega)]
      by_cases hab : a ≤ b
      · rw [between_append line hpa hab]
      · rw [between_empty line (show b ≤ a by omega), List.append_nil,
          receive_short (by simp; omega) ⟨line p, mem_between.mpr ⟨p, le_rfl, by omega, rfl⟩, hactive⟩,
          receive_short (by simp; omega) ⟨line p, mem_between.mpr ⟨p, le_rfl, hpb, rfl⟩, hactive⟩]
    · rw [Line.reference, hc, hw]
      simp [Config.preambleBits]
      omega

theorem reception_long {line : Line} {a b : Int} (h : ∀ j : Int, a - 9 ≤ j → j ≤ a → line j ≠ .idle) :
    line.reception a b = .damaged := by
  rw [Line.reception, if_pos (by rw [carried_long h]; decide)]

/-! ## What LIF hands on of a slot (R8, R10, R11) -/

theorem slotCommands_driven {slot : Slot} {line : Line} {s : State} {x : TxRecord} (ht : s.slotTiming = true)
    (hx : s.lif.tx = some x) (hs : x.frame.slot s.own = slot) :
    slotCommands slot line s = x.handOff
      (line.reference (slot.begins s.sync.cycleShift) (slot.ends s.sync.cycleShift) - Config.referenceOffset)
      (line.reception (slot.begins s.sync.cycleShift) (slot.ends s.sync.cycleShift)) := by
  simp [slotCommands, ht, hx, hs]

theorem slotCommands_heard {slot : Slot} {line : Line} {s : State} (ht : s.slotTiming = true)
    (hs : ∀ x, s.lif.tx = some x → x.frame.slot s.own ≠ slot) :
    slotCommands slot line s = slot.handOff
      (line.reference (slot.begins s.sync.cycleShift) (slot.ends s.sync.cycleShift) - Config.referenceOffset)
      (line.reception (slot.begins s.sync.cycleShift) (slot.ends s.sync.cycleShift)) := by
  cases hx : s.lif.tx with
  | none => simp [slotCommands, ht, hx]
  | some x => simp [slotCommands, ht, hx, hs x hx]

/-- R11, R87: of a slot that the station drove the read-back is handed on, and behind it another station's intact
marker. -/
theorem handOff_driven (x : TxRecord) (o : Int) (r : Reception) : ∃ others : List Instr,
    x.handOff o r = x.frame.readBack r :: others ∧
      ((∃ b, r = .bytes b ∧ b ≠ x.bytes ∧ (parseMarker b).isSome = true ∧
          others = [.markerReceived b o .whole true]) ∨
        ((∀ b, r = .bytes b → b = x.bytes ∨ parseMarker b = none) ∧ others = [])) := by
  cases r with
  | nothing => exact ⟨[], rfl, .inr ⟨nofun, rfl⟩⟩
  | damaged => exact ⟨[], rfl, .inr ⟨nofun, rfl⟩⟩
  | bytes b =>
    refine ⟨_, rfl, ?_⟩
    by_cases hb : b = x.bytes
    · exact .inr ⟨fun c hc => .inl (by cases hc; exact hb), by simp [hb]⟩
    cases hm : parseMarker b with
    | none => exact .inr ⟨fun c hc => .inr (by cases hc; exact hm), by simp [hb, markerHandOff, hm]⟩
    | some m => exact .inl ⟨b, rfl, hb, by simp [hm], by simp [hb, markerHandOff, hm]⟩

/-- Settles O27: the form of a reception, the activity of a slot and the hand-off by who drove the slot. -/
theorem bitTimesComeToCommands : Obligations.BitTimesComeToCommands := by
  refine ⟨⟨receive_eq_nothing, fun line b => ⟨fun h => ?received, ?stands⟩, fun b j hj => ?_,
    fun a b => ⟨lineBits_append a b, lineBits_length a⟩⟩,
    ⟨fun line a b i => ⟨between_length line a b, between_get line⟩, fun line a b => reception_idle,
      fun line a b p => reception_of_activity, fun line a b => reception_long, fun o k p => ?places⟩,
    ⟨fun slot line s => ⟨rfl, fun h => by simp [slotCommands, h]⟩,
      fun line s => ⟨rfl, fun h => if_pos h, fun ho ht => ?untimed⟩⟩,
    fun slot line s x r o ht hx hr ho hs => ?driven, fun slot line s o ht hs ho => ?heard⟩
  case received =>
    obtain ⟨hb, p, behind, hidle, hline⟩ := receive_bytes_form h
    obtain ⟨i, j, hj, hbehind⟩ := (idleAgain_iff behind).mp hidle
    exact ⟨(intactFrame_iff b).mp hb, p, i, j, behind, hline, hj, hbehind⟩
  case stands =>
    rintro ⟨hb, p, i, j, behind, rfl, hj, hbehind⟩
    rw [List.append_assoc, receive_behind_idle]
    exact receive_frame ((intactFrame_iff b).mpr hb) ((idleAgain_iff behind).mpr ⟨i, j, hj, hbehind⟩)
  · simpa using lineBits_get [b] 0 j (by simp) hj
  case places =>
    simp only [Slot.begins, Slot.ends, Config.rollSlotOffset, Config.dataPhaseOffset, Config.closeOffset,
      Config.markerSlotBits, Config.rollSlotBits, Config.dataPhaseBits]
    push_cast
    refine ⟨trivial, rfl, ?_, ?_, ?_, ?_⟩ <;> ring
  case untimed =>
    rw [untimedCommands, if_neg (by simp [ho, ht])]
    cases receive line <;> rfl
  case driven =>
    obtain ⟨others, heq, hothers⟩ := handOff_driven x o r
    refine ⟨others, ?_, hothers⟩
    rw [slotCommands_driven ht hx hs, ← hr, show (Config.referenceOffset : Int) = 16 from rfl, ← ho, heq]
    cases x.frame <;> rfl
  case heard =>
    rw [slotCommands_heard ht hs, show (Config.referenceOffset : Int) = 16 from rfl, ← ho]
    generalize line.reception _ _ = r
    cases slot with
    | marker =>
      cases r with
      | nothing | damaged => rfl
      | bytes b => cases hm : (parseMarker b).isSome <;> simp [Slot.handOff, markerHandOff, hm]
    | roll k =>
      cases r with
      | nothing | damaged => rfl
      | bytes b => cases hm : (parseMarker b).isSome <;> simp [Slot.handOff, markerHandOff, hm]
    | phase k =>
      cases r with
      | nothing | damaged => rfl
      | bytes b => cases hm : (parseMarker b).isSome <;> simp [Slot.handOff, markerHandOff, hm]

end Sys2Proof.Machine

namespace Sys2Proof.Machine

/-! ## What adoption decides for an address (R47) -/

/-- R47: what the adoption of `m` at `s` does for address `a`, on the way at `u`: a departure, an arrival or nothing. -/
def decideAddress (m : Marker) (s u : State) (a : Addr) : State :=
  if droppedBy m s a then departAtMarker a u
  else if addedBy m s a then arrive a u.rcm.degraded[a] u
  else u

theorem droppedBy_iff (m : Marker) (s : State) (a : Addr) :
    droppedBy m s a = true ↔ a ≠ s.own ∧ s.rcm.presence[a] ≠ none ∧ m.presence[a] = none := decide_eq_true_iff

theorem addedBy_iff (m : Marker) (s : State) (a : Addr) :
    addedBy m s a = true ↔ a ≠ s.own ∧ s.rcm.presence[a] = none ∧ m.presence[a] ≠ none := decide_eq_true_iff

/-- An address whose presence is still that of `s` is decided as at `s`. -/
theorem adoptAddress_eq_decide {m : Marker} {s u : State} {a : Addr} (ho : u.own = s.own)
    (hp : u.rcm.presence[a] = s.rcm.presence[a]) : adoptAddress m u a = decideAddress m s u a := by
  have hpresent : u.rcm.present a = s.rcm.presence[a].isSome := by rw [← hp]; rfl
  unfold adoptAddress decideAddress
  rw [ho, hpresent]
  by_cases hown : a = s.own
  · simp [hown, droppedBy, addedBy]
  · cases hs : s.rcm.presence[a] <;> cases hm : m.presence[a] <;>
      simp [hown, droppedBy_iff, addedBy_iff, show s.rcm.presence[a.val] = _ from hs,
        show m.presence[a.val] = _ from hm]

theorem departAtMarker_rcm (a : Addr) (s : State) : (departAtMarker a s).rcm = { s.rcm with
    presence := s.rcm.presence.set a none, degraded := s.rcm.degraded.set a false
    lastDeparture := some { addr := a, reason := .marker, cycle := s.cycle } } := by
  simp [departAtMarker, noteDeparture, tellDeparted, removePresent, State.cycle]

theorem departAtMarker_txe (a : Addr) (s : State) :
    (departAtMarker a s).txe = { s.txe with nextSeq := s.txe.nextSeq.set a 0#8 } := by
  simp [departAtMarker, noteDeparture, tellDeparted, removePresent]

theorem departAtMarker_rxe (a : Addr) (s : State) : (departAtMarker a s).rxe = { s.rxe with
    lastAcc := s.rxe.lastAcc.set a none, acks := s.rxe.acks.filter (fun p => p.1 ≠ a) } := by
  simp [departAtMarker, noteDeparture, tellDeparted, removePresent]

theorem departAtMarker_dlt (a : Addr) (s : State) : (departAtMarker a s).dlt = (finishEntry a .destLeft s).dlt := by
  simp [departAtMarker, noteDeparture, tellDeparted, removePresent, finishEntry_dlt]

theorem arrive_rcm (a : Addr) (d : Bool) (s : State) : (arrive a d s).rcm = { s.rcm with
    presence := s.rcm.presence.set a (some 0), degraded := s.rcm.degraded.set a d
    lastArrival := some { addr := a, cycle := s.cycle } } := by
  simp [arrive]

@[simp] theorem decideAddress_sync (m : Marker) (s u : State) (a : Addr) : (decideAddress m s u a).sync = u.sync := by
  unfold decideAddress; (repeat' split) <;> simp

@[simp] theorem decideAddress_cfg (m : Marker) (s u : State) (a : Addr) : (decideAddress m s u a).cfg = u.cfg := by
  unfold decideAddress; (repeat' split) <;> simp

theorem decideAddress_presence_other {m : Marker} {s u : State} {a b : Addr} (h : a ≠ b) :
    (decideAddress m s u a).rcm.presence[b] = u.rcm.presence[b] := by
  have hv : a.val ≠ b.val := fun he => h (Fin.ext he)
  unfold decideAddress
  (repeat' split) <;> simp [departAtMarker_rcm, arrive_rcm, hv]

/-- R47: adoption over addresses that are each met once decides each as at its start. -/
theorem foldl_adoptAddress {m : Marker} {s : State} (l : List Addr) (hl : l.Nodup) (u : State) (ho : u.own = s.own)
    (hp : ∀ a ∈ l, u.rcm.presence[a] = s.rcm.presence[a]) :
    l.foldl (adoptAddress m) u = l.foldl (decideAddress m s) u := by
  induction l generalizing u with
  | nil => rfl
  | cons a l ih =>
    obtain ⟨ha, hl⟩ := List.nodup_cons.mp hl
    rw [List.foldl_cons, List.foldl_cons, adoptAddress_eq_decide ho (hp a (by simp))]
    refine ih hl _ (by simpa [State.own] using ho) fun b hb => ?_
    rw [decideAddress_presence_other (by rintro rfl; exact ha hb)]
    exact hp b (by simp [hb])

theorem adopt_foldl_eq (m : Marker) (s : State) :
    (List.finRange 32).foldl (adoptAddress m) s = (List.finRange 32).foldl (decideAddress m s) s :=
  foldl_adoptAddress (List.finRange 32) (List.nodup_finRange 32) s rfl fun _ _ => rfl

/-! ## The fold over the addresses, part by part -/

/-- What a decision makes of a part of the state, the fold makes of it address by address. -/
theorem foldl_decide {γ : Type} (g : State → γ) (h : γ → Addr → γ) {m : Marker} {s : State}
    (hstep : ∀ u a, u.sync = s.sync → g (decideAddress m s u a) = h (g u) a) (l : List Addr) (u : State)
    (hu : u.sync = s.sync) : g (l.foldl (decideAddress m s) u) = l.foldl h (g u) := by
  induction l generalizing u with
  | nil => rfl
  | cons a l ih => rw [List.foldl_cons, List.foldl_cons, ih _ (by simpa using hu), hstep u a hu]

theorem foldl_set_where {α : Type} (p : Addr → Bool) (x : α) (l : List Addr) (v : Vector α 32) (b : Addr) :
    (l.foldl (fun v a => if p a then v.set a x else v) v)[b] = if b ∈ l ∧ p b = true then x else v[b] := by
  induction l generalizing v with
  | nil => simp
  | cons a l ih =>
    rw [List.foldl_cons, ih]
    by_cases hab : a = b
    · subst hab; by_cases hp : p a = true <;> simp [hp]
    · have hv : a.val ≠ b.val := fun he => hab (Fin.ext he)
      by_cases hp : p a = true <;> simp [hp, hv, Ne.symm hab]

theorem foldl_filter_where {β : Type} (p : Addr → Bool) (l : List Addr) (acks : List (Addr × β)) :
    l.foldl (fun r a => if p a then r.filter (fun x => x.1 ≠ a) else r) acks =
      acks.filter fun x => !(decide (x.1 ∈ l) && p x.1) := by
  induction l generalizing acks with
  | nil => simp
  | cons a l ih =>
    rw [List.foldl_cons, ih]
    by_cases hp : p a = true
    · rw [if_pos hp, List.filter_filter]
      apply List.filter_congr
      intro x _
      by_cases hx : x.1 = a <;> simp [hx, hp]
    · rw [if_neg hp]
      apply List.filter_congr
      intro x _
      by_cases hx : x.1 = a <;> simp [hx, hp]

/-- Of records written address by address in ascending order the highest stands. -/
theorem foldl_record_where {β : Type} (p : Addr → Bool) (F : Addr → β) (l : List Addr) (hl : l.Pairwise (· < ·))
    (r : Option β) :
    (∀ a ∈ l, highest p a → l.foldl (fun r a => if p a then some (F a) else r) r = some (F a)) ∧
      ((∀ a ∈ l, p a = false) → l.foldl (fun r a => if p a then some (F a) else r) r = r) := by
  induction l generalizing r with
  | nil => simp
  | cons b l ih =>
    obtain ⟨hb, hrest⟩ := List.pairwise_cons.mp hl
    refine ⟨fun a ha hhigh => ?_, fun hn => ?_⟩
    · rw [List.foldl_cons]
      rcases List.mem_cons.mp ha with rfl | ha
      · rw [if_pos hhigh.1]
        exact (ih hrest _).2 fun c hc => hhigh.2 c (hb c hc)
      · exact (ih hrest _).1 a ha hhigh
    · rw [List.foldl_cons, if_neg (by simp [hn b]), (ih hrest r).2 fun a ha => hn a (by simp [ha])]

theorem foldl_or (p : Addr → Bool) (l : List Addr) (b : Bool) :
    l.foldl (fun b a => b || p a) b = true ↔ b = true ∨ ∃ a ∈ l, p a = true := by
  induction l generalizing b with
  | nil => simp
  | cons a l ih => rw [List.foldl_cons, ih]; simp [or_assoc]

end Sys2Proof.Machine

namespace Sys2Proof.Machine

/-! ## What one decision does, part by part -/

theorem decide_degraded (m : Marker) (s u : State) (a : Addr) : (decideAddress m s u a).rcm.degraded =
    if droppedBy m s a then u.rcm.degraded.set a false else u.rcm.degraded := by
  unfold decideAddress
  (repeat' split) <;> simp [departAtMarker_rcm, arrive_rcm]

theorem decide_nextSeq (m : Marker) (s u : State) (a : Addr) : (decideAddress m s u a).txe.nextSeq =
    if droppedBy m s a then u.txe.nextSeq.set a 0#8 else u.txe.nextSeq := by
  unfold decideAddress
  (repeat' split) <;> simp [departAtMarker_txe]

theorem decide_lastAcc (m : Marker) (s u : State) (a : Addr) : (decideAddress m s u a).rxe.lastAcc =
    if droppedBy m s a then u.rxe.lastAcc.set a none else u.rxe.lastAcc := by
  unfold decideAddress
  (repeat' split) <;> simp [departAtMarker_rxe]

theorem decide_acks (m : Marker) (s u : State) (a : Addr) : (decideAddress m s u a).rxe.acks =
    if droppedBy m s a then u.rxe.acks.filter (fun p => p.1 ≠ a) else u.rxe.acks := by
  unfold decideAddress
  (repeat' split) <;> simp [departAtMarker_rxe]

theorem droppedBy_not_addedBy {m : Marker} {s : State} {a : Addr} (h : droppedBy m s a = true) :
    addedBy m s a = false := by
  have hd := (droppedBy_iff m s a).mp h
  rw [Bool.eq_false_iff, Ne, addedBy_iff]
  exact fun he => hd.2.1 he.2.1

theorem decide_lastDeparture {m : Marker} {s u : State} (a : Addr) (hu : u.sync = s.sync) :
    (decideAddress m s u a).rcm.lastDeparture =
      if droppedBy m s a then some { addr := a, reason := .marker, cycle := s.cycle } else u.rcm.lastDeparture := by
  unfold decideAddress
  (repeat' split) <;> simp [departAtMarker_rcm, arrive_rcm, State.cycle, hu]

theorem decide_lastArrival {m : Marker} {s u : State} (a : Addr) (hu : u.sync = s.sync) :
    (decideAddress m s u a).rcm.lastArrival =
      if addedBy m s a then some { addr := a, cycle := s.cycle } else u.rcm.lastArrival := by
  unfold decideAddress
  split
  · rename_i h
    simp [departAtMarker_rcm, droppedBy_not_addedBy h]
  · split <;> simp [arrive_rcm, State.cycle, hu]

theorem finishEntry_isPending {a : Addr} {st : DoneStatus} {s : State} {e : Event} (he : e ≠ .doneReady) :
    (finishEntry a st s).isPending e = s.isPending e := by
  unfold finishEntry
  split
  · rfl
  · rw [complete_isPending]
    simp [he]
    rfl

theorem complete_withRcm (st : DoneStatus) (f : TxFrame) (s : State) (v : Rcm) :
    complete st f (s.withRcm v) = (complete st f s).withRcm v := by
  unfold complete
  by_cases h : s.dlt.done.isEmpty = true
  · rw [if_pos h, if_pos (by exact h)]; rfl
  · rw [if_neg h, if_neg (by exact h)]; rfl

theorem finishEntry_withRcm (a : Addr) (st : DoneStatus) (s : State) (v : Rcm) :
    finishEntry a st (s.withRcm v) = (finishEntry a st s).withRcm v := by
  simp only [finishEntry, State.withRcm_dlt]
  split
  · rfl
  · exact complete_withRcm _ _ (s.withDlt _) v

/-- R51: a departure at adoption posts MEMBERSHIP besides what the end of its entry posts. -/
theorem departAtMarker_posts (a : Addr) (s : State) (e : Event) : (departAtMarker a s).isPending e =
    (decide (Event.membership = e) || (finishEntry a .destLeft s).isPending e) := by
  unfold departAtMarker noteDeparture
  rw [post_isPending]
  unfold tellDeparted removePresent
  rw [finishEntry_withRcm]
  rfl

theorem departAtMarker_isPending {a : Addr} {s : State} {e : Event} (he : e ≠ .doneReady) :
    (departAtMarker a s).isPending e = (decide (Event.membership = e) || s.isPending e) := by
  rw [departAtMarker_posts, finishEntry_isPending he]

theorem arrive_isPending (a : Addr) (d : Bool) (s : State) (e : Event) :
    (arrive a d s).isPending e = (decide (Event.membership = e) || s.isPending e) := by
  unfold arrive
  rw [post_isPending]
  rfl

theorem decide_isPending_membership (m : Marker) (s u : State) (a : Addr) :
    (decideAddress m s u a).isPending .membership =
      (u.isPending .membership || (droppedBy m s a || addedBy m s a)) := by
  unfold decideAddress
  split
  · rename_i h; rw [departAtMarker_isPending (by decide), h]; simp
  · rename_i h
    split
    · rename_i h'; rw [arrive_isPending, h']; simp
    · rename_i h'; simp [h, h']

theorem decide_isPending {m : Marker} {s u : State} {a : Addr} {e : Event} (hm : e ≠ .membership)
    (hd : e ≠ .doneReady) : (decideAddress m s u a).isPending e = u.isPending e := by
  unfold decideAddress
  split
  · rw [departAtMarker_isPending hd]; simp [Ne.symm hm]
  · split
    · rw [arrive_isPending]; simp [Ne.symm hm]
    · rfl

/-! ## Presence adoption (R47, R51, R52) -/

/-- The addresses decided, before the marker's map is written over them. -/
def decided (m : Marker) (s : State) : State := (List.finRange 32).foldl (decideAddress m s) s

theorem adoptPresence_eq (m : Marker) (s : State) : adoptPresence m s = (decided m s).withRcm { (decided m s).rcm with
    presence := m.presence, absenceLimit := m.limit
    degraded := tab fun a => (decided m s).rcm.degraded[a] && m.presence[a].isSome } := by
  unfold adoptPresence decided
  rw [adopt_foldl_eq]

/-- What a decision makes of a part of the state, the 32 decisions make of it address by address. -/
theorem decided_eq {γ : Type} (g : State → γ) (h : γ → Addr → γ) {m : Marker} {s : State}
    (hstep : ∀ u a, u.sync = s.sync → g (decideAddress m s u a) = h (g u) a) :
    g (decided m s) = (List.finRange 32).foldl h (g s) := foldl_decide g h hstep _ s rfl

/-- A part that no decision changes. -/
theorem decided_keeps {γ : Type} (g : State → γ) {m : Marker} {s : State}
    (hstep : ∀ u a, g (decideAddress m s u a) = g u) : g (decided m s) = g s :=
  foldl_keeps g _ (fun u a => hstep u a) _ _

theorem decided_degraded (m : Marker) (s : State) (a : Addr) :
    (decided m s).rcm.degraded[a] = if droppedBy m s a then false else s.rcm.degraded[a] := by
  rw [decided_eq (fun u => u.rcm.degraded)
    (fun v a => if droppedBy m s a then v.set a false else v) fun u a _ => decide_degraded m s u a, foldl_set_where]
  simp

theorem decided_nextSeq (m : Marker) (s : State) (a : Addr) :
    (decided m s).txe.nextSeq[a] = if droppedBy m s a then 0#8 else s.txe.nextSeq[a] := by
  rw [decided_eq (fun u => u.txe.nextSeq)
    (fun v a => if droppedBy m s a then v.set a 0#8 else v) fun u a _ => decide_nextSeq m s u a, foldl_set_where]
  simp

theorem decided_lastAcc (m : Marker) (s : State) (a : Addr) :
    (decided m s).rxe.lastAcc[a] = if droppedBy m s a then none else s.rxe.lastAcc[a] := by
  rw [decided_eq (fun u => u.rxe.lastAcc)
    (fun v a => if droppedBy m s a then v.set a none else v) fun u a _ => decide_lastAcc m s u a, foldl_set_where]
  simp

theorem decided_acks (m : Marker) (s : State) :
    (decided m s).rxe.acks = s.rxe.acks.filter fun p => !droppedBy m s p.1 := by
  rw [decided_eq (fun u => u.rxe.acks)
    (fun r a => if droppedBy m s a then r.filter (fun p => p.1 ≠ a) else r) fun u a _ => decide_acks m s u a,
    foldl_filter_where]
  simp

theorem ascending_finRange : (List.finRange 32).Pairwise (· < ·) := List.pairwise_lt_finRange 32

theorem decided_lastDeparture (m : Marker) (s : State) :
    (∀ a : Addr, highest (droppedBy m s) a →
      (decided m s).rcm.lastDeparture = some { addr := a, reason := .marker, cycle := s.cycle }) ∧
    ((∀ a : Addr, droppedBy m s a = false) → (decided m s).rcm.lastDeparture = s.rcm.lastDeparture) := by
  have h := decided_eq (fun u => u.rcm.lastDeparture)
    (fun r a => if droppedBy m s a then some { addr := a, reason := .marker, cycle := s.cycle } else r)
    fun u a hu => decide_lastDeparture (m := m) (s := s) a hu
  obtain ⟨hhigh, hnone⟩ := foldl_record_where (droppedBy m s)
    (fun a => ({ addr := a, reason := .marker, cycle := s.cycle } : Departure)) _ ascending_finRange s.rcm.lastDeparture
  exact ⟨fun a ha => h.trans (hhigh a (List.mem_finRange a) ha), fun hn => h.trans (hnone fun a _ => hn a)⟩

theorem decided_lastArrival (m : Marker) (s : State) :
    (∀ a : Addr, highest (addedBy m s) a →
      (decided m s).rcm.lastArrival = some { addr := a, cycle := s.cycle }) ∧
    ((∀ a : Addr, addedBy m s a = false) → (decided m s).rcm.lastArrival = s.rcm.lastArrival) := by
  have h := decided_eq (fun u => u.rcm.lastArrival)
    (fun r a => if addedBy m s a then some { addr := a, cycle := s.cycle } else r)
    fun u a hu => decide_lastArrival (m := m) (s := s) a hu
  obtain ⟨hhigh, hnone⟩ := foldl_record_where (addedBy m s)
    (fun a => ({ addr := a, cycle := s.cycle } : Arrival)) _ ascending_finRange s.rcm.lastArrival
  exact ⟨fun a ha => h.trans (hhigh a (List.mem_finRange a) ha), fun hn => h.trans (hnone fun a _ => hn a)⟩

theorem decided_membership (m : Marker) (s : State) : (decided m s).isPending .membership = true ↔
    s.isPending .membership = true ∨ ∃ a : Addr, droppedBy m s a = true ∨ addedBy m s a = true := by
  rw [decided_eq (fun u => u.isPending .membership)
    (fun b a => b || (droppedBy m s a || addedBy m s a)) fun u a _ => decide_isPending_membership m s u a, foldl_or]
  simp

theorem adoptPresence_isPending (m : Marker) (s : State) (e : Event) :
    (adoptPresence m s).isPending e = (decided m s).isPending e := by
  rw [adoptPresence_eq]; rfl

/-- R47: what presence adoption makes of the peers in RCM and TXE, once SYNC has the marker's cycle number. -/
theorem adoptPresence_peers {m : Marker} {s : State} (h : s.cycle = m.number) : PeersBy m s (adoptPresence m s) where
  presence := by rw [adoptPresence_eq]; exact ⟨rfl, rfl⟩
  degraded a := by
    have hr : (adoptPresence m s).rcm.degraded[a] = ((decided m s).rcm.degraded[a] && m.presence[a].isSome) := by
      rw [adoptPresence_eq, State.withRcm_rcm]
      exact getElem_fin_tab _ a
    rw [hr, decided_degraded]
    split
    · rename_i hd
      simp [((droppedBy_iff m s a).mp hd).2.2]
    · rfl
  sequences a := by rw [adoptPresence_eq]; exact decided_nextSeq m s a
  records := by
    obtain ⟨hdep, hdepNone⟩ := decided_lastDeparture m s
    obtain ⟨harr, harrNone⟩ := decided_lastArrival m s
    rw [h] at hdep harr
    rw [adoptPresence_eq]
    exact ⟨⟨hdep, hdepNone⟩, ⟨harr, harrNone⟩⟩
  membership := by rw [adoptPresence_isPending, decided_membership]

end Sys2Proof.Machine

namespace Sys2Proof.Machine

/-! ## The retry list at a departure (R132, R139) -/

theorem isFor_iff (a : Addr) (e : RetryEntry) : e.isFor a = true ↔ e.frame.dest = .unicast a := by
  simp [RetryEntry.isFor]

/-- R131: of a list with one entry per destination, the entry for `a` is all that goes when `a` departs. -/
theorem entry_for {l : List RetryEntry} (h : l.Pairwise fun e f => e.frame.dest ≠ f.frame.dest) (a : Addr) :
    l.eraseP (RetryEntry.isFor a) = l.filter (fun e => !e.isFor a) ∧
      (l.find? (RetryEntry.isFor a)).toList = l.filter (RetryEntry.isFor a) := by
  induction l with
  | nil => exact ⟨rfl, rfl⟩
  | cons e l ih =>
    obtain ⟨he, hl⟩ := List.pairwise_cons.mp h
    by_cases ha : e.isFor a = true
    · have hother : ∀ f ∈ l, ¬ f.isFor a = true := fun f hf hfa =>
        he f hf (((isFor_iff a e).mp ha).trans ((isFor_iff a f).mp hfa).symm)
      have hall : l.filter (fun f => !f.isFor a) = l := List.filter_eq_self.mpr fun f hf => by simp [hother f hf]
      have hnone : l.filter (RetryEntry.isFor a) = [] := List.filter_eq_nil_iff.mpr hother
      simp [ha, hall, hnone]
    · simp [ha, (ih hl).1, (ih hl).2]

/-- The completion of a retry entry whose destination has left. -/
def leftDone (cycle : Option Half) (e : RetryEntry) : DoneRec :=
  { frame := e.frame, status := .destLeft, cycle := cycle }

theorem leftCompletions_eq (gone : Addr → Bool) (cycle : Option Half) (l : List RetryEntry) :
    leftCompletions gone cycle l =
      ((List.finRange 32).filter gone).flatMap fun a => (l.filter (RetryEntry.isFor a)).map (leftDone cycle) := rfl

/-- R132: the departure of `a` takes its entry out and completes it. -/
theorem finishEntry_destLeft {s : State} (h : s.dlt.retry.Pairwise fun e f => e.frame.dest ≠ f.frame.dest) (a : Addr) :
    (finishEntry a .destLeft s).dlt = { s.dlt with
      retry := s.dlt.retry.filter fun e => !e.isFor a
      done := s.dlt.done ++ (s.dlt.retry.filter (RetryEntry.isFor a)).map (leftDone s.sync.cycleNumber) } := by
  obtain ⟨herase, hfind⟩ := entry_for h a
  rw [finishEntry_dlt]
  cases hf : s.dlt.retry.find? (RetryEntry.isFor a) with
  | none =>
    rw [hf] at hfind
    have hno : ∀ e ∈ s.dlt.retry, ¬ e.isFor a = true := List.filter_eq_nil_iff.mp hfind.symm
    rw [← hfind, List.filter_eq_self.mpr fun e he => by simp [hno e he]]
    simp
  | some e =>
    rw [hf] at hfind
    rw [← hfind, ← herase]
    rfl

theorem arrive_dlt (a : Addr) (d : Bool) (s : State) : (arrive a d s).dlt = s.dlt := by simp

theorem decide_dlt {m : Marker} {s u : State} (h : u.dlt.retry.Pairwise fun e f => e.frame.dest ≠ f.frame.dest)
    (a : Addr) : (decideAddress m s u a).dlt = if droppedBy m s a then { u.dlt with
      retry := u.dlt.retry.filter fun e => !e.isFor a
      done := u.dlt.done ++ (u.dlt.retry.filter (RetryEntry.isFor a)).map (leftDone u.sync.cycleNumber) }
      else u.dlt := by
  unfold decideAddress
  split
  · rw [departAtMarker_dlt, finishEntry_destLeft h]
  · split
    · exact arrive_dlt _ _ _
    · rfl

theorem filter_isFor_of_ne {a b : Addr} (h : a ≠ b) (l : List RetryEntry) :
    (l.filter fun e => !e.isFor a).filter (RetryEntry.isFor b) = l.filter (RetryEntry.isFor b) := by
  rw [List.filter_filter]
  apply List.filter_congr
  intro e _
  by_cases hb : e.isFor b = true
  · have ha : ¬ e.isFor a = true := by
      rw [isFor_iff, (isFor_iff b e).mp hb]
      exact fun he => h (Dest.unicast.inj he).symm
    simp [hb, ha]
  · simp [hb]

/-- R139: the decisions over addresses that are each met once, in DLT. -/
theorem foldl_decide_dlt {m : Marker} {s : State} (l : List Addr) (hl : l.Nodup) (u : State)
    (h : u.dlt.retry.Pairwise fun e f => e.frame.dest ≠ f.frame.dest) :
    (l.foldl (decideAddress m s) u).dlt = { u.dlt with
      retry := u.dlt.retry.filter fun e => !(l.filter (droppedBy m s)).any fun a => e.isFor a
      done := u.dlt.done ++ (l.filter (droppedBy m s)).flatMap fun a =>
        (u.dlt.retry.filter (RetryEntry.isFor a)).map (leftDone u.sync.cycleNumber) } := by
  induction l generalizing u with
  | nil => simp
  | cons a l ih =>
    obtain ⟨ha, hl⟩ := List.nodup_cons.mp hl
    have hd := decide_dlt (m := m) (s := s) h a
    by_cases hdrop : droppedBy m s a = true
    · rw [if_pos hdrop] at hd
      have hsame : ∀ b ∈ l.filter (droppedBy m s),
          (u.dlt.retry.filter fun e => !e.isFor a).filter (RetryEntry.isFor b) =
          u.dlt.retry.filter (RetryEntry.isFor b) := fun b hb =>
        filter_isFor_of_ne (by rintro rfl; exact ha (List.mem_filter.mp hb).1) _
      have hretry : (u.dlt.retry.filter fun e => !e.isFor a).filter
          (fun e => !(l.filter (droppedBy m s)).any fun b => e.isFor b) =
          u.dlt.retry.filter fun e => !(a :: l.filter (droppedBy m s)).any fun b => e.isFor b := by
        rw [List.filter_filter]
        apply List.filter_congr
        intro e _
        rw [List.any_cons, Bool.not_or, Bool.and_comm]
      have hdone : ((l.filter (droppedBy m s)).flatMap fun b => ((u.dlt.retry.filter fun e => !e.isFor a).filter
          (RetryEntry.isFor b)).map (leftDone u.sync.cycleNumber)) =
          (l.filter (droppedBy m s)).flatMap fun b =>
            (u.dlt.retry.filter (RetryEntry.isFor b)).map (leftDone u.sync.cycleNumber) :=
        List.flatMap_congr fun b hb => by rw [hsame b hb]
      rw [List.foldl_cons, ih hl _ (by rw [hd]; exact h.filter _), hd, decideAddress_sync,
        List.filter_cons_of_pos hdrop,
        List.flatMap_cons, ← hretry, ← hdone, ← List.append_assoc]
    · rw [if_neg hdrop] at hd
      rw [List.foldl_cons, ih hl _ (by rw [hd]; exact h), hd, decideAddress_sync, List.filter_cons_of_neg hdrop]

theorem stayingEntries_eq {l : List RetryEntry} (h : ∀ e ∈ l, e.frame.dest ≠ .broadcast) (gone : Addr → Bool) :
    l.filter (fun e => !((List.finRange 32).filter gone).any fun a => e.isFor a) = stayingEntries gone l := by
  unfold stayingEntries
  apply List.filter_congr
  intro e he
  cases hd : e.frame.dest with
  | broadcast => exact absurd hd (h e he)
  | unicast a =>
    have hany : (((List.finRange 32).filter gone).any fun b => e.isFor b) = gone a := by
      rw [Bool.eq_iff_iff, List.any_eq_true]
      simp [isFor_iff, hd]
    rw [hany]

theorem decided_dlt (m : Marker) {s : State} (h : RetryListSound s.dlt.retry) : (decided m s).dlt = { s.dlt with
    retry := stayingEntries (droppedBy m s) s.dlt.retry
    done := s.dlt.done ++ leftCompletions (droppedBy m s) s.sync.cycleNumber s.dlt.retry } := by
  have hd := foldl_decide_dlt (m := m) (s := s) (List.finRange 32) (List.nodup_finRange 32) s h.onePerDestination
  rw [stayingEntries_eq h.noBroadcast, ← leftCompletions_eq] at hd
  exact hd

/-! ## DONE_READY (R144) -/

/-- R144: from `s` to `t` DONE_READY is set pending exactly if the completion list was empty and has had a buffer
added. -/
structure DoneReadyBy (s t : State) : Prop where
  posted : t.isPending .doneReady = true ↔ s.isPending .doneReady = true ∨ (s.dlt.done = [] ∧ t.dlt.done ≠ [])
  grows : s.dlt.done ≠ [] → t.dlt.done ≠ []

theorem DoneReadyBy.of_same {s t : State} (hd : t.dlt.done = s.dlt.done)
    (hp : t.isPending .doneReady = s.isPending .doneReady) : DoneReadyBy s t where
  posted := by rw [hp, hd]; simp
  grows := by rw [hd]; exact id

theorem DoneReadyBy.trans {s t u : State} (h : DoneReadyBy s t) (h' : DoneReadyBy t u) : DoneReadyBy s u where
  posted := by
    rw [h'.posted, h.posted]
    have hs := h.grows
    have ht := h'.grows
    by_cases hd : t.dlt.done = [] <;> by_cases hd' : s.dlt.done = [] <;> simp_all
  grows hs := h'.grows (h.grows hs)

theorem doneReadyBy_complete (st : DoneStatus) (f : TxFrame) (s : State) : DoneReadyBy s (complete st f s) where
  posted := by rw [complete_isPending]; simp [or_comm]
  grows _ := by simp

theorem doneReadyBy_finishEntry (a : Addr) (st : DoneStatus) (s : State) : DoneReadyBy s (finishEntry a st s) := by
  unfold finishEntry
  split
  · exact .of_same rfl rfl
  · exact (DoneReadyBy.of_same (s := s) (t := s.withDlt { s.dlt with
      retry := s.dlt.retry.eraseP (RetryEntry.isFor a) }) rfl rfl).trans (doneReadyBy_complete ..)

theorem doneReadyBy_decide (m : Marker) (s u : State) (a : Addr) : DoneReadyBy u (decideAddress m s u a) := by
  unfold decideAddress
  split
  · refine (doneReadyBy_finishEntry a .destLeft u).trans (.of_same (by rw [departAtMarker_dlt]) ?_)
    rw [departAtMarker_posts]
    rfl
  · split
    · exact .of_same (by simp) (by rw [arrive_isPending]; simp)
    · exact .of_same rfl rfl

theorem doneReadyBy_decided (m : Marker) (s : State) : DoneReadyBy s (decided m s) :=
  foldl_holds (P := DoneReadyBy s) (fun u a hu => hu.trans (doneReadyBy_decide m s u a)) _ _ (.of_same rfl rfl)

theorem decide_rxQueue (m : Marker) (s u : State) (a : Addr) : (decideAddress m s u a).rxe.queue = u.rxe.queue := by
  unfold decideAddress
  (repeat' split) <;> simp [departAtMarker_rxe]

/-- R47, R122, R129: what presence adoption makes of the peers in RXE. -/
theorem adoptPresence_rxe (m : Marker) (s : State) :
    (∀ a : Addr, (adoptPresence m s).rxe.lastAcc[a] = if droppedBy m s a then none else s.rxe.lastAcc[a]) ∧
      (adoptPresence m s).rxe.acks = (s.rxe.acks.filter fun p => !droppedBy m s p.1) ∧
      (adoptPresence m s).rxe.queue = s.rxe.queue := by
  rw [adoptPresence_eq]
  exact ⟨decided_lastAcc m s, decided_acks m s, decided_keeps (fun u => u.rxe.queue) fun u a => decide_rxQueue m s u a⟩

/-- R47: presence adoption at a station whose retry list is sound. -/
theorem adoptPresence_adopted {m : Marker} {s : State} (h : s.sync.cycleNumber = some m.number)
    (hr : RetryListSound s.dlt.retry) : AdoptedBy m s (adoptPresence m s) where
  peers := adoptPresence_peers (by simp [State.cycle, h])
  sources := (adoptPresence_rxe m s).1
  acks := (adoptPresence_rxe m s).2.1
  queue := (adoptPresence_rxe m s).2.2
  entries := by
    rw [adoptPresence_eq, ← h]
    exact decided_dlt m hr
  doneReady := by
    rw [adoptPresence_isPending, (doneReadyBy_decided m s).posted, decided_dlt m hr, h]
    exact or_congr_right (and_congr_right fun hd => by simp [hd])

end Sys2Proof.Machine

namespace Sys2Proof.Machine

/-! ## Taking a marker, step by step (R81) -/

theorem markerLearn_timed {s : State} (h : s.sync.state ≠ .listening) : markerLearn s = s := if_neg h

/-- R81 step 3 decides nothing: the digests agree, or there is nothing to compare. -/
theorem markerCompare_undecided {m : Marker} {s : State}
    (ha : s.sync.state = .active → s.ptu.digestValue = m.digest)
    (hl : s.sync.state = .learning ∨ s.sync.state = .relearn → s.ptu.full = false) : markerCompare m s = s := by
  unfold markerCompare
  by_cases h : s.sync.state = .active
  · rw [if_pos h, if_pos (ha h)]
  · rw [if_neg h, if_neg]
    rintro ⟨hs, hf⟩
    rw [hl hs] at hf
    cases hf

/-- R83: a station whose address is present is not displaced. -/
theorem displacementTest_present {s : State}
    (h : s.sync.state = .active ∨ s.sync.state = .relearn → s.rcm.presence[s.own].isSome = true) :
    displacementTest s = s := by
  unfold displacementTest
  rw [if_neg]
  rintro ⟨hs, hp⟩
  rw [Rcm.present, h hs] at hp
  cases hp

theorem markerSegment_elsewhere {m : Marker} {s : State} (h : s.sync.state ≠ .learning ∧ s.sync.state ≠ .relearn) :
    markerSegment m s = s := by
  unfold markerSegment
  rw [if_neg]
  rintro (hs | hs)
  · exact h.1 hs
  · exact h.2 hs

theorem adoptPresence_presence (m : Marker) (s : State) : (adoptPresence m s).rcm.presence = m.presence := by
  rw [adoptPresence_eq, State.withRcm_rcm]

/-- R81: the steps behind a comparison that leaves `u`, at a station that the marker does not displace. -/
theorem takeMarker_adopts {m : Marker} {o : Int} {restart : Bool} {s u : State}
    (hu : markerCompare m (markerLearn (markerTiming m o restart s)) = u) (hw : u.sync.state ≠ .withdrawn)
    (hp : u.sync.state = .active ∨ u.sync.state = .relearn → m.presence[u.own].isSome = true) :
    takeMarker m o restart s = markerSegment m (adoptPresence m u) := by
  unfold takeMarker
  dsimp only
  rw [hu, if_neg hw, displacementTest_present]
  intro hs
  have hown : (adoptPresence m u).own = u.own := by simp [State.own]
  simp only [hown, adoptPresence_presence]
  exact hp (by simpa using hs)

/-- R15, R81: SYNC behind a marker in the window. -/
def windowSync (m : Marker) (o : Int) (y : Sync) : Sync :=
  { y with
    cycleNumber := some m.number, holderAddr := some m.holder, holderVacant := false, lost := 0, cond := .running
    takeoverTimer := .stopped, listenTimer := .stopped, markerDone := true, cycleShift := o }

theorem markerTiming_window (m : Marker) (o : Int) (s : State) :
    markerTiming m o false s = s.withSync (windowSync m o s.sync) := rfl

/-- R81: a marker in the window where no comparison decides and no displacement follows: presence adoption and
segment. -/
theorem takeMarker_window {m : Marker} {o : Int} {s : State} (ht : s.sync.state.timed = true)
    (ha : s.sync.state = .active → s.ptu.digestValue = m.digest)
    (hl : s.sync.state = .learning ∨ s.sync.state = .relearn → s.ptu.full = false)
    (hp : s.sync.state = .active ∨ s.sync.state = .relearn → m.presence[s.own].isSome = true) :
    takeMarker m o false s = markerSegment m (adoptPresence m (s.withSync (windowSync m o s.sync))) := by
  refine takeMarker_adopts ?_ ?_ hp
  · rw [markerTiming_window, markerLearn_timed, markerCompare_undecided (s := s.withSync (windowSync m o s.sync)) ha hl]
    rintro hs
    rw [show s.sync.state = .listening from hs] at ht
    cases ht
  · intro hs
    rw [show s.sync.state = .withdrawn from hs] at ht
    cases ht

theorem decided_none {m : Marker} {s : State} (hd : ∀ a : Addr, droppedBy m s a = false)
    (ha : ∀ a : Addr, addedBy m s a = false) : decided m s = s :=
  decided_keeps id fun u a => by simp [decideAddress, hd a, ha a]

/-- R47: adoption from a marker with the same addresses present writes the counts and the limit. -/
theorem adoptPresence_same {m : Marker} {s : State}
    (hsame : ∀ a : Addr, m.presence[a].isSome = s.rcm.presence[a].isSome)
    (hdeg : ∀ a : Addr, s.rcm.degraded[a] = true → s.rcm.presence[a].isSome = true) :
    adoptPresence m s = s.withRcm { s.rcm with presence := m.presence, absenceLimit := m.limit } := by
  have hnone : decided m s = s := by
    refine decided_none (fun a => ?_) fun a => ?_
    · rw [Bool.eq_false_iff, Ne, droppedBy_iff]
      rintro ⟨-, hs, hm⟩
      have h := hsame a
      rw [hm] at h
      exact hs (Option.isSome_eq_false_iff.mp h.symm |> Option.isNone_iff_eq_none.mp)
    · rw [Bool.eq_false_iff, Ne, addedBy_iff]
      rintro ⟨-, hs, hm⟩
      have h := hsame a
      rw [hs] at h
      exact hm (Option.isSome_eq_false_iff.mp h |> Option.isNone_iff_eq_none.mp)
  have hdegraded : (tab fun a => s.rcm.degraded[a] && m.presence[a].isSome) = s.rcm.degraded := by
    apply Vector.ext
    intro i hi
    rw [getElem_tab]
    have h := hdeg ⟨i, hi⟩
    rw [← hsame ⟨i, hi⟩] at h
    simpa using h
  rw [adoptPresence_eq, hnone, hdegraded]

theorem full_iff (p : Ptu) : p.full = true ↔ ∀ g : Fin 8, p.known[g] = true := by
  simp only [Ptu.full, Vector.all_toList, Vector.all_eq_true, id]
  exact ⟨fun h g => h g.val g.isLt, fun h i hi => h ⟨i, hi⟩⟩

end Sys2Proof.Machine

namespace Sys2Proof.Machine

/-! ## What adoption leaves unchanged -/

theorem decide_record (m : Marker) (s u : State) (a : Addr) :
    (decideAddress m s u a).rcm.record = u.rcm.record ∧ (decideAddress m s u a).rcm.tally = u.rcm.tally ∧
      (decideAddress m s u a).rcm.disagreeing = u.rcm.disagreeing ∧
      (decideAddress m s u a).rcm.ownCollisions = u.rcm.ownCollisions := by
  unfold decideAddress
  (repeat' split) <;> simp [departAtMarker_rcm, arrive_rcm]

theorem adoptPresence_record (m : Marker) (s : State) :
    (adoptPresence m s).rcm.record = s.rcm.record ∧ (adoptPresence m s).rcm.tally = s.rcm.tally ∧
      (adoptPresence m s).rcm.disagreeing = s.rcm.disagreeing ∧
      (adoptPresence m s).rcm.ownCollisions = s.rcm.ownCollisions := by
  rw [adoptPresence_eq, State.withRcm_rcm]
  exact ⟨decided_keeps (fun u => u.rcm.record) fun u a => (decide_record m s u a).1,
    decided_keeps (fun u => u.rcm.tally) fun u a => (decide_record m s u a).2.1,
    decided_keeps (fun u => u.rcm.disagreeing) fun u a => (decide_record m s u a).2.2.1,
    decided_keeps (fun u => u.rcm.ownCollisions) fun u a => (decide_record m s u a).2.2.2⟩

theorem decide_txe (m : Marker) (s u : State) (a : Addr) :
    (decideAddress m s u a).txe = { u.txe with nextSeq := (decideAddress m s u a).txe.nextSeq } := by
  unfold decideAddress
  (repeat' split) <;> simp [departAtMarker_txe]

theorem adoptPresence_txe (m : Marker) (s : State) :
    (adoptPresence m s).txe = { s.txe with nextSeq := (adoptPresence m s).txe.nextSeq } := by
  have h : ∀ u a, u.txe = { s.txe with nextSeq := u.txe.nextSeq } →
      (decideAddress m s u a).txe = { s.txe with nextSeq := (decideAddress m s u a).txe.nextSeq } := by
    intro u a hu
    rw [decide_txe, hu]
  have hd : (decided m s).txe = { s.txe with nextSeq := (decided m s).txe.nextSeq } :=
    foldl_holds (P := fun u => u.txe = { s.txe with nextSeq := u.txe.nextSeq }) h _ _ rfl
  rw [adoptPresence_eq]
  exact hd

theorem adoptPresence_isPending_other {m : Marker} {s : State} {e : Event} (hm : e ≠ .membership)
    (hd : e ≠ .doneReady) : (adoptPresence m s).isPending e = s.isPending e := by
  rw [adoptPresence_isPending]
  exact decided_keeps (fun u => u.isPending e) fun u a => decide_isPending hm hd

/-! ## Adoption within a marker's work -/

/-- Where `s` and `u` agree as far as an adoption sees the peers in RCM and TXE. -/
structure SamePeers (s u : State) : Prop where
  own : u.own = s.own
  presence : u.rcm.presence = s.rcm.presence
  degraded : u.rcm.degraded = s.rcm.degraded
  records : u.rcm.lastDeparture = s.rcm.lastDeparture ∧ u.rcm.lastArrival = s.rcm.lastArrival
  sequences : u.txe.nextSeq = s.txe.nextSeq
  membership : u.isPending .membership = s.isPending .membership

theorem SamePeers.trans {s u v : State} (h : SamePeers s u) (h' : SamePeers u v) : SamePeers s v where
  own := h'.own.trans h.own
  presence := h'.presence.trans h.presence
  degraded := h'.degraded.trans h.degraded
  records := ⟨h'.records.1.trans h.records.1, h'.records.2.trans h.records.2⟩
  sequences := h'.sequences.trans h.sequences
  membership := h'.membership.trans h.membership

theorem samePeers_withSync (s : State) (y : Sync) : SamePeers s (s.withSync y) :=
  ⟨rfl, rfl, rfl, ⟨rfl, rfl⟩, rfl, rfl⟩

theorem droppedBy_congr {m : Marker} {s u : State} (ho : u.own = s.own) (hp : u.rcm.presence = s.rcm.presence) :
    droppedBy m u = droppedBy m s := by
  funext a; simp only [droppedBy, ho, hp]

theorem addedBy_congr {m : Marker} {s u : State} (ho : u.own = s.own) (hp : u.rcm.presence = s.rcm.presence) :
    addedBy m u = addedBy m s := by
  funext a; simp only [addedBy, ho, hp]

/-- An adoption is that of any state that agrees about the peers before it. -/
theorem PeersBy.of_same {m : Marker} {s u t : State} (hs : SamePeers s u) (h : PeersBy m u t) : PeersBy m s t := by
  have hdrop := droppedBy_congr (m := m) hs.own hs.presence
  have hadd := addedBy_congr (m := m) hs.own hs.presence
  obtain ⟨⟨hdep, hdepNone⟩, ⟨harr, harrNone⟩⟩ := h.records
  exact {
    presence := h.presence
    degraded := fun a => by rw [← hs.degraded]; exact h.degraded a
    sequences := fun a => by rw [← hs.sequences, ← hdrop]; exact h.sequences a
    records := ⟨⟨by rw [← hdrop]; exact hdep, by rw [← hdrop, ← hs.records.1]; exact hdepNone⟩,
      ⟨by rw [← hadd]; exact harr, by rw [← hadd, ← hs.records.2]; exact harrNone⟩⟩
    membership := by rw [← hs.membership, ← hdrop, ← hadd]; exact h.membership }

theorem markerSegment_isPending (m : Marker) (s : State) (e : Event) :
    (markerSegment m s).isPending e = s.isPending e := isPending_congr (by simp) e

/-- R27, R47: the segment that a marker brings touches none of the peers. -/
theorem PeersBy.behind_segment {m : Marker} {s t : State} (h : PeersBy m s t) : PeersBy m s (markerSegment m t) where
  presence := by simpa using h.presence
  degraded a := by simpa using h.degraded a
  sequences a := by simpa using h.sequences a
  records := by
    obtain ⟨hdep, harr⟩ := h.records
    exact ⟨by simpa using hdep, by simpa using harr⟩
  membership := by rw [markerSegment_isPending]; exact h.membership

theorem adoption_peers {m : Marker} {s u : State} (hs : SamePeers s u) (hn : u.sync.cycleNumber = some m.number) :
    PeersBy m s (markerSegment m (adoptPresence m u)) :=
  ((adoptPresence_peers (by simp [State.cycle, hn])).of_same hs).behind_segment

/-- R81: an adoption from behind a marker in the window. -/
theorem adoption_window {m : Marker} {o : Int} {s : State} (hr : RetryListSound s.dlt.retry) :
    AdoptedBy m s (markerSegment m (adoptPresence m (s.withSync (windowSync m o s.sync)))) := by
  have h := adoptPresence_adopted (m := m) (s := s.withSync (windowSync m o s.sync)) rfl hr
  have hdrop : droppedBy m (s.withSync (windowSync m o s.sync)) = droppedBy m s := rfl
  exact {
    peers := adoption_peers (samePeers_withSync s _) rfl
    sources := fun a => by simpa [hdrop] using h.sources a
    acks := by simpa [hdrop] using h.acks
    queue := by simpa using h.queue
    entries := by simpa [hdrop] using h.entries
    doneReady := by rw [markerSegment_isPending]; exact h.doneReady }

/-- Settles O21. -/
theorem markersInTheWindow : Obligations.MarkersInTheWindow := by
  refine ⟨fun b o m s hm ho hs hh hc hd hlo hhi hdig hsame hown hdeg => ?_,
    fun b o m s hm ho hh hc hd hlo hhi hr hcase => ?_⟩
  · have hwin : inWindow o = true := (inWindow_iff o).mpr ⟨hlo, hhi⟩
    have hpres : m.presence[s.own].isSome = true := (hsame s.own).trans hown
    rw [markerReceived_some o s hm, handleMarker_running o ho (by simp [hs, SyncState.timed]) hh hc, if_pos ⟨hwin, hd⟩,
      takeMarker_window (by simp [hs, SyncState.timed]) (fun _ => by simp [Ptu.digestValue, hdig]) (by simp [hs])
        fun _ => hpres,
      markerSegment_elsewhere (by simp [windowSync, hs]),
      adoptPresence_same (s := s.withSync (windowSync m o s.sync)) hsame hdeg]
    rfl
  · have hwin : inWindow o = true := (inWindow_iff o).mpr ⟨hlo, hhi⟩
    have hfull : (∃ g : Fin 8, s.ptu.known[g] = false) → s.ptu.full = false := by
      rintro ⟨g, hg⟩
      rw [Bool.eq_false_iff, Ne, full_iff]
      intro hall
      rw [hall g] at hg
      cases hg
    obtain ⟨ht, ha, hl, hp⟩ : s.sync.state.timed = true ∧ (s.sync.state = .active → s.ptu.digestValue = m.digest) ∧
        (s.sync.state = .learning ∨ s.sync.state = .relearn → s.ptu.full = false) ∧
        (s.sync.state = .active ∨ s.sync.state = .relearn → m.presence[s.own].isSome = true) := by
      rcases hcase with hs | ⟨hs, hdig, hpres⟩ | ⟨hs | ⟨hs, hpres⟩, hg⟩
      · simp [hs, SyncState.timed]
      · simpa [hs, SyncState.timed, Ptu.digestValue, hdig] using hpres
      · simpa [hs, SyncState.timed] using hfull hg
      · simpa [hs, SyncState.timed] using ⟨hfull hg, hpres⟩
    obtain ⟨hrec, htally, hdis, hcol⟩ := adoptPresence_record m (s.withSync (windowSync m o s.sync))
    refine ⟨_, by rw [markerReceived_some o s hm, handleMarker_running o ho ht hh hc, if_pos ⟨hwin, hd⟩,
      takeMarker_window ht ha hl hp], adoption_window hr, by simp; rfl, fun hstay => ?_, by simpa using hrec,
      by simpa using htally, by simpa using hdis, by simpa using hcol, ?_, by simp, by simp, by simp, by simp,
      fun e hem hed => ?_⟩
    · rw [markerSegment_elsewhere (by rcases hstay with h | h <;> simp [windowSync, h])]
      simp
    · simpa using adoptPresence_txe m (s.withSync (windowSync m o s.sync))
    · rw [markerSegment_isPending, adoptPresence_isPending_other hem hed]
      rfl

end Sys2Proof.Machine

namespace Sys2Proof.Machine

/-! ## The segment of a marker (R27) -/

theorem segmentEntries_some {b : Vector Byte 12} (h : ∀ i : Fin 12, (segmentEntry b[i]).isSome = true) :
    segmentEntries b = some (tab fun i => (segmentEntry b[i]).getD .unknown) := by
  unfold segmentEntries
  rw [if_pos]
  simp only [Vector.all_toList, Vector.all_eq_true]
  exact fun i hi => h ⟨i, hi⟩

theorem segmentEntries_none {b : Vector Byte 12} (h : ∃ i : Fin 12, segmentEntry b[i] = none) :
    segmentEntries b = none := by
  obtain ⟨i, hi⟩ := h
  unfold segmentEntries
  rw [if_neg]
  simp only [Vector.all_toList, Vector.all_eq_true]
  intro hall
  have hsome := hall i.val i.isLt
  rw [show segmentEntry b[i.val] = none from hi] at hsome
  cases hsome

theorem markerSegment_taken {m : Marker} {s : State} (hs : s.sync.state = .learning ∨ s.sync.state = .relearn)
    (h : ∀ i : Fin 12, (segmentEntry m.segment[i]).isSome = true) : (markerSegment m s).ptu =
      s.ptu.writeSegment (segmentOfCycle m.number) (tab fun i => (segmentEntry m.segment[i]).getD .unknown) := by
  unfold markerSegment
  rw [if_pos hs, segmentEntries_some h]
  rfl

theorem markerSegment_malformed {m : Marker} {s : State} (h : ∃ i : Fin 12, segmentEntry m.segment[i] = none) :
    markerSegment m s = s := by
  unfold markerSegment
  rw [segmentEntries_none h]
  split <;> rfl

theorem writeSegment_forget (p : Ptu) (g : Fin 8) (es : Vector Entry 12) : p.forget.writeSegment g es = { p.forget with
    table := tab fun k => if segmentOf k = g then es[k.val % 12]'(by omega) else .unknown
    known := (Vector.replicate 8 false).set g true } := by
  have hfull : ((Vector.replicate 8 false).set g true).toList.all id = false := by revert g; decide
  have htable : (tab fun k : Phase => if segmentOf k = g then es[k.val % 12]'(by omega) else p.forget.table[k]) =
      tab fun k => if segmentOf k = g then es[k.val % 12]'(by omega) else .unknown := by
    simp [Ptu.forget]
  unfold Ptu.writeSegment
  dsimp only
  rw [htable, if_neg (by simpa [Ptu.full, Ptu.forget] using hfull)]
  rfl

/-- R26, R27: over a forgotten table the segment of a marker is the first that is known. -/
theorem segment_learnsFirst {m : Marker} {s : State} (hs : s.sync.state = .learning ∨ s.sync.state = .relearn)
    (hp : s.ptu = s.ptu.forget) : learnsFirst m (markerSegment m s).ptu ∧
      (markerSegment m s).ptu.learnAttempts = s.ptu.learnAttempts := by
  by_cases h : ∀ i : Fin 12, (segmentEntry m.segment[i]).isSome = true
  · rw [markerSegment_taken hs h, hp, writeSegment_forget]
    refine ⟨⟨rfl, fun _ => ⟨fun g => ?_, fun k => ?_⟩, fun hn => ?_⟩, rfl⟩
    · simp [Vector.getElem_set, segmentOfCycle, eq_comm]
    · have hk : segmentOf k = segmentOfCycle m.number ↔ k.val / 12 = m.number.toNat % 8 := Fin.ext_iff
      by_cases hseg : k.val / 12 = m.number.toNat % 8
      · have hsome := h ⟨k.val % 12, by omega⟩
        rw [if_pos hseg]
        simp only [getElem_fin_tab, if_pos (hk.mpr hseg), getElem_tab]
        obtain ⟨e, he⟩ := Option.isSome_iff_exists.mp hsome
        rw [show segmentEntry m.segment[k.val % 12] = some e from he, he]
        rfl
      · rw [if_neg hseg]
        simp only [getElem_fin_tab, if_neg (fun he => hseg (hk.mp he))]
    · obtain ⟨i, hi⟩ := hn
      have hsome := h i
      rw [hi] at hsome
      cases hsome
  · have hn : ∃ i : Fin 12, segmentEntry m.segment[i] = none := by
      obtain ⟨i, hi⟩ := not_forall.mp h
      exact ⟨i, by simpa using hi⟩
    rw [markerSegment_malformed hn]
    refine ⟨⟨by rw [hp]; rfl, fun hall => absurd hall h, fun _ => ⟨fun k => ?_, fun g => ?_⟩⟩, rfl⟩
    · rw [hp]; simp [Ptu.forget]
    · rw [hp]; simp [Ptu.forget]

/-! ## Timing restarted (R15, R44, R45, R103) -/

theorem ageEntry_isPending {s : State} {r : RetryEntry} {e : Event} (hd : e ≠ .doneReady) (hf : e ≠ .fault) :
    (ageEntry s r).isPending e = s.isPending e := by
  have hgive : (giveUp r.frame s).isPending e = s.isPending e := by
    unfold giveUp
    rw [recordFault_isPending, complete_isPending]
    simp [hd, hf]
  unfold ageEntry
  split
  · exact hgive
  split
  · rfl
  split
  · split
    · rfl
    · exact hgive
  · rfl

theorem produceCycleStart_isPending {s : State} {e : Event} (hd : e ≠ .doneReady) (hf : e ≠ .fault)
    (hp : e ≠ .patternApplied) : (produceCycleStart s).isPending e = s.isPending e := by
  have hage : ∀ u : State, (ageRetryList u).isPending e = u.isPending e := fun u =>
    (foldl_keeps (fun v => v.isPending e) _ (fun v r => ageEntry_isPending hd hf) _ _).trans rfl
  have hstaged : ∀ u : State, (applyStaged u).isPending e = u.isPending e := by
    intro u
    unfold applyStaged
    split
    · rw [post_isPending]; simp [Ne.symm hp]; rfl
    · rfl
  unfold produceCycleStart
  dsimp only
  rw [hstaged]
  split
  · rw [hage]; rfl
  · rfl

/-- R15: a marker that restarts timing posts what the cycle start posts. -/
theorem markerTiming_isPending {m : Marker} {o : Int} {s : State} {e : Event} (hd : e ≠ .doneReady) (hf : e ≠ .fault)
    (hp : e ≠ .patternApplied) : (markerTiming m o true s).isPending e = s.isPending e := by
  have h := produceCycleStart_isPending (s := cutTransmission ((foldMark s).withSync { (foldMark s).sync with
    cycleNumber := some m.number, holderAddr := some m.holder, lost := 0, holderVacant := false
    takeoverTimer := .stopped, listenTimer := .stopped, cond := .running })) hd hf hp
  exact h

theorem markerTiming_rcm (m : Marker) (o : Int) (s : State) : (markerTiming m o true s).rcm =
    { s.rcm with record := Vector.replicate 32 none, tally := 0 } := by
  unfold markerTiming
  simp

theorem markerTiming_txe (m : Marker) (o : Int) (s : State) : (markerTiming m o true s).txe =
    if s.txe.applyPending then
      { (foldMark s).txe with pattern := s.txe.staged, pointer := 0, applyPending := false }
    else (foldMark s).txe := by
  unfold markerTiming
  simp [foldMark_txe]

theorem markerTiming_fru {m : Marker} {o : Int} {s : State} (h : s.sync.state ≠ .active ∨ s.dlt.retry = []) :
    (markerTiming m o true s).fru = s.fru := by
  have hp := produceCycleStart_without_aging (s := cutTransmission ((foldMark s).withSync { (foldMark s).sync with
    cycleNumber := some m.number, holderAddr := some m.holder, lost := 0, holderVacant := false
    takeoverTimer := .stopped, listenTimer := .stopped, cond := .running })) (by simpa using h)
  exact hp.2.1

theorem markerTiming_samePeers (m : Marker) (o : Int) (s : State) : SamePeers s (markerTiming m o true s) where
  own := by simp [State.own]
  presence := by rw [markerTiming_rcm]
  degraded := by rw [markerTiming_rcm]
  records := by rw [markerTiming_rcm]; exact ⟨rfl, rfl⟩
  sequences := by rw [markerTiming_txe]; split <;> simp [foldMark_txe]
  membership := markerTiming_isPending (by decide) (by decide) (by decide)

theorem dropHolder_isPending {s : State} {e : Event} (h : e ≠ .holder) :
    (dropHolder s).isPending e = s.isPending e := by
  unfold dropHolder
  split
  · rw [post_isPending]; simp [Ne.symm h]; rfl
  · rfl

theorem dropHolder_samePeers (s : State) : SamePeers s (dropHolder s) where
  own := by simp [State.own]
  presence := by simp
  degraded := by simp
  records := by simp
  sequences := by simp
  membership := dropHolder_isPending (by decide)

theorem dropHolder_of_not {s : State} (h : s.sync.holder = false) : dropHolder s = s := by
  simp [dropHolder, h]

/-- R15, R44, R45, R103: `u` is `s` after a marker has restarted its timing, before the marker's presence is adopted. -/
structure Restarted (m : Marker) (s u : State) : Prop where
  sync : u.sync = { s.sync with
    state := u.sync.state, cond := .running, holder := false, cycleNumber := some m.number, holderAddr := some m.holder
    lost := 0, holderVacant := false, takeoverTimer := .stopped, listenTimer := .stopped, markerDone := true
    leaveSent := false, cycleShift := 0 }
  lif : u.lif = { s.lif with
    tx := none, rollDone := Vector.replicate 32 false, phaseDone := Vector.replicate 96 false }
  peers : SamePeers s u
  record : u.rcm.record = Vector.replicate 32 none ∧ u.rcm.tally = 0
  pattern : u.txe.applyPending = false ∧
    (s.txe.applyPending = true → u.txe.pattern = s.txe.staged ∧ u.txe.pointer = 0)
  rxe : u.rxe = s.rxe
  cfg : u.cfg = s.cfg

theorem markerTiming_restarted (m : Marker) (o : Int) (s : State) :
    Restarted m s (markerTiming m o true (dropHolder s)) where
  sync := by simp [markerTiming_sync, dropHolder_sync]
  lif := by simp
  peers := (dropHolder_samePeers s).trans (markerTiming_samePeers m o _)
  record := by rw [markerTiming_rcm]; exact ⟨rfl, rfl⟩
  pattern := by
    rw [markerTiming_txe]
    split
    · simp
    · rename_i h
      simp_all [foldMark_txe]
  rxe := by simp
  cfg := by simp

/-- R82: a restarted station that relearns is restarted. -/
theorem Restarted.relearn {m : Marker} {s u : State} (h : Restarted m s u) (hs : u.sync.state = .active)
    (k : FaultKind) (ctx : FaultCtx) : Restarted m s (degradeToRelearn k ctx u) := by
  have heq : degradeToRelearn k ctx u = toRelearn (recordFault k ctx u) := if_pos hs
  have hr := toRelearn_whole (recordFault k ctx u) (by simpa using hs)
  have hhold : u.sync.holder = false := by rw [h.sync]
  have hsync : (toRelearn (recordFault k ctx u)).sync = { u.sync with state := .relearn } := by
    rw [hr.sync]
    simp [hhold]
  have hrcm : (toRelearn (recordFault k ctx u)).rcm = u.rcm := by rw [hr.rcm]; simp
  have htxe : (toRelearn (recordFault k ctx u)).txe = { u.txe with conflict := 0, mark := .none } := by
    rw [hr.txe]; simp
  rw [heq]
  refine ⟨by rw [hsync, h.sync], by rw [hr.lif, ← h.lif]; simp, h.peers.trans ⟨by simp [State.own], by rw [hrcm],
    by rw [hrcm], by rw [hrcm]; exact ⟨rfl, rfl⟩, by rw [htxe], ?_⟩, by rw [hrcm]; exact h.record,
    by rw [htxe]; exact h.pattern, by rw [← h.rxe]; simp, by rw [← h.cfg]; simp⟩
  rw [toRelearn_isPending (by decide), recordFault_isPending]
  simp

/-- R81: a restarted station that adopts the marker's presence and takes its segment. -/
theorem Restarted.adopts {m : Marker} {s u : State} (h : Restarted m s u) :
    RestartedBy m s (markerSegment m (adoptPresence m u)) := by
  have hn : u.sync.cycleNumber = some m.number := by rw [h.sync]
  have hdrop := droppedBy_congr (m := m) h.peers.own h.peers.presence
  obtain ⟨hrec, htally, -, -⟩ := adoptPresence_record m u
  have htxe := adoptPresence_txe m u
  have hrxe : (∀ a : Addr, (adoptPresence m u).rxe.lastAcc[a] = if droppedBy m s a then none else s.rxe.lastAcc[a]) ∧
      (adoptPresence m u).rxe.acks = (s.rxe.acks.filter fun p => !droppedBy m s p.1) ∧
      (adoptPresence m u).rxe.queue = s.rxe.queue := by
    rw [← hdrop, ← h.rxe]
    exact adoptPresence_rxe m u
  exact {
    sync := by simpa using h.sync
    lif := by simpa using h.lif
    peers := adoption_peers h.peers hn
    record := by
      simp only [markerSegment_frame, hrec, htally, h.record]
      exact ⟨fun a => by simp, trivial⟩
    pattern := by
      simp only [markerSegment_frame]
      rw [htxe]
      exact h.pattern
    sources := by simpa using hrxe.1
    acks := by simpa using hrxe.2.1
    queue := by simpa using hrxe.2.2
    cfg := by simpa using h.cfg }

end Sys2Proof.Machine

namespace Sys2Proof.Machine

/-! ## A first marker, a restart and a yield (R26, R81, R84, R87) -/

/-- R81: a restart where no comparison decides and no displacement follows. -/
theorem takeMarker_restart {m : Marker} {o : Int} {s : State} (ht : s.sync.state.timed = true)
    (ha : s.sync.state = .active → s.ptu.digestValue = m.digest)
    (hl : s.sync.state = .learning ∨ s.sync.state = .relearn → s.ptu.full = false)
    (hp : s.sync.state = .active ∨ s.sync.state = .relearn → m.presence[s.own].isSome = true) :
    takeMarker m o true s = markerSegment m (adoptPresence m (markerTiming m o true s)) := by
  have hstate : (markerTiming m o true s).sync.state = s.sync.state := by rw [markerTiming_sync]
  have hptu : (markerTiming m o true s).ptu = s.ptu := by simp
  refine takeMarker_adopts ?_ ?_ ?_
  · rw [markerLearn_timed, markerCompare_undecided]
    · rw [hstate, hptu]; exact ha
    · rw [hstate, hptu]; exact hl
    · rintro hs
      rw [hstate] at hs
      rw [hs] at ht
      cases ht
  · intro hs
    rw [hstate] at hs
    rw [hs] at ht
    cases ht
  · simp only [hstate, (markerTiming_samePeers m o s).own]
    exact hp

/-- R82: a restart of an ACTIVE station whose digest is another one. -/
theorem takeMarker_restart_diverged {m : Marker} {o : Int} {s : State} (hs : s.sync.state = .active)
    (hd : s.ptu.digestValue ≠ m.digest) (hp : m.presence[s.own].isSome = true) : takeMarker m o true s =
      markerSegment m (adoptPresence m (degradeToRelearn .diverged .none (markerTiming m o true s))) := by
  have hstate : (markerTiming m o true s).sync.state = .active := by rw [markerTiming_sync]; exact hs
  have hptu : (markerTiming m o true s).ptu = s.ptu := by simp
  have hrel : (degradeToRelearn .diverged .none (markerTiming m o true s)).sync.state = .relearn := by
    rw [degradeToRelearn, if_pos hstate, toRelearn_sync _ (by simpa using hstate)]
  refine takeMarker_adopts ?_ (by rw [hrel]; decide) ?_
  · rw [markerLearn_timed (by rw [hstate]; decide), markerCompare, if_pos hstate, if_neg (by rw [hptu]; exact hd)]
  · intro _
    have hown : (degradeToRelearn .diverged .none (markerTiming m o true s)).own = s.own := by simp [State.own]
    simp only [hown]
    exact hp

/-- R26, R81, R92: a LISTENING station takes a marker as the first of its learning. -/
theorem takeMarker_listening {m : Marker} {o : Int} {s : State} (hs : s.sync.state = .listening) :
    takeMarker m o true s =
      markerSegment m (adoptPresence m (enter .learning (forgetTable (markerTiming m o true s)))) := by
  have hstate : (markerTiming m o true s).sync.state = .listening := by rw [markerTiming_sync]; exact hs
  refine takeMarker_adopts ?_ (by simp) (by simp)
  rw [markerLearn, if_pos hstate, markerCompare_undecided (by simp)]
  intro _
  have hnot : ¬ (forgetTable (markerTiming m o true s)).ptu.full = true := by
    rw [full_iff, forgetTable_ptu]
    exact fun h => by simpa [Ptu.forget] using h 0
  exact Bool.eq_false_iff.mpr hnot

theorem forget_forget (p : Ptu) : p.forget.forget = p.forget := rfl

theorem listening_samePeers {s : State} : SamePeers s (enter .learning (forgetTable s)) where
  own := by simp [State.own]
  presence := by simp
  degraded := by simp
  records := by simp
  sequences := by simp
  membership := by rw [enter_isPending]; rfl

theorem firstMarker {m : Marker} {o : Int} {s : State} (hs : s.sync.state = .listening) :
    ∃ t, takeMarker m o true s = t ∧
      t.sync.state = .learning ∧ t.sync.cond = .running ∧ t.sync.cycleNumber = some m.number ∧
      t.sync.holderAddr = some m.holder ∧ t.sync.lost = 0 ∧ t.sync.listenTimer = .stopped ∧
      t.sync.takeoverTimer = .stopped ∧ PeersBy m s t ∧ t.cru = s.cru ∧ t.fru = s.fru ∧ t.cfg = s.cfg ∧
      t.isPending .syncState = true ∧ learnsFirst m t.ptu ∧
      ((∃ i : Fin 12, segmentEntry m.segment[i] = none) → t.ptu = s.ptu.forget) := by
  have hsync : (enter .learning (forgetTable (markerTiming m o true s))).sync =
      { (markerTiming m o true s).sync with state := .learning } := by simp
  have hptu : (enter .learning (forgetTable (markerTiming m o true s))).ptu = s.ptu.forget := by simp
  have hsame := (markerTiming_samePeers m o s).trans (listening_samePeers)
  have hfru : (markerTiming m o true s).fru = s.fru := markerTiming_fru (.inl (by rw [hs]; decide))
  refine ⟨_, takeMarker_listening hs, ?_⟩
  generalize hu : enter .learning (forgetTable (markerTiming m o true s)) = u at hsync hptu hsame
  have hpend : u.isPending .syncState = true := by rw [← hu, enter_isPending]; simp
  have hcfu : u.cru = s.cru ∧ u.fru = s.fru ∧ u.cfg = s.cfg := by rw [← hu]; simp [hfru]
  have hadopted : (adoptPresence m u).ptu = (adoptPresence m u).ptu.forget := by simp [hptu, forget_forget]
  have hfirst := segment_learnsFirst (m := m) (s := adoptPresence m u) (.inl (by simp [hsync])) hadopted
  rw [markerTiming_sync] at hsync
  refine ⟨by simp [hsync], by simp [hsync], by simp [hsync], by simp [hsync], by simp [hsync], by simp [hsync],
    by simp [hsync], adoption_peers hsame (by simp [hsync]), by simp [hcfu], by simp [hcfu], by simp [hcfu], ?_,
    hfirst.1, fun hn => by rw [markerSegment_malformed hn]; simp [hptu]⟩
  rw [markerSegment_isPending, adoptPresence_isPending_other (by decide) (by decide), hpend]

/-- R15, R87: SYNC takes a marker as a restart from a station suspended, and from a holder that yields to it. -/
theorem markerReceived_restart {b : List Byte} {o : Int} {m : Marker} {s : State} (hm : parseMarker b = some m)
    (ho : m.holder ≠ s.own) (ht : s.sync.state.timed = true)
    (hc : s.sync.cond = .suspended ∧ s.sync.holder = false ∨ s.sync.holder = true ∧ m.holder < s.own) :
    exec (.markerReceived b o) s = .next (takeMarker m o true (dropHolder s)) := by
  rw [markerReceived_some o s hm]
  rcases hc with ⟨hc, hh⟩ | ⟨hh, hlow⟩
  · rw [handleMarker_suspended o ho ht hh hc, dropHolder_of_not hh]
  · rw [handleMarker_holder o ho ht hh, if_pos hlow]

theorem toRelearn_keeps_pending {s : State} {e : Event} (hs : s.sync.state = .active) (h : s.isPending e = true) :
    (toRelearn s).isPending e = true := by
  have hp : s.hp.events.getLsbD e.index.val = true := h
  unfold State.isPending
  rw [(toRelearn_whole s hs).hp]
  simp [hp]

/-- R82: what a restarted ACTIVE station whose digest is another one is before it adopts the marker's presence. -/
theorem diverged_whole {u : State} (hs : u.sync.state = .active) :
    (degradeToRelearn .diverged .none u).sync.state = .relearn ∧
      (degradeToRelearn .diverged .none u).ptu = u.ptu.forget ∧
      (degradeToRelearn .diverged .none u).cru = cruOnLeavingActive u ∧
      (degradeToRelearn .diverged .none u).txe = { u.txe with conflict := 0, mark := .none } ∧
      (degradeToRelearn .diverged .none u).fru.seen[FaultKind.diverged.code] = true ∧
      (degradeToRelearn .diverged .none u).isPending .syncState = true ∧
      (u.isPending .holder = true → (degradeToRelearn .diverged .none u).isPending .holder = true) := by
  have hact : (recordFault .diverged .none u).sync.state = .active := by simpa using hs
  have hr := toRelearn_whole _ hact
  rw [degradeToRelearn, if_pos hs]
  refine ⟨by rw [hr.sync], by simp, ?_, by rw [hr.txe]; simp, ?_, ?_, fun hh => ?_⟩
  · exact hr.cru.trans (cruOnLeavingActive_congr (by simp) (by simp))
  · rw [hr.fru, recordFault_fru]
    exact record_seen_self ..
  · rw [toRelearn_isPending (by decide)]
    rfl
  · refine toRelearn_keeps_pending hact ?_
    rw [recordFault_isPending, hh]
    simp

/-- R81, R82: a restart of an ACTIVE station whose digest is another one. -/
theorem restart_diverged {m : Marker} {o : Int} {s : State} (hs : s.sync.state = .active)
    (hd : s.ptu.digestValue ≠ m.digest) (hp : m.presence[s.own].isSome = true) : ∃ t,
    takeMarker m o true (dropHolder s) = t ∧ RestartedBy m s t ∧
      (s.sync.holder = true → t.isPending .holder = true) ∧ t.sync.state = .relearn ∧ learnsFirst m t.ptu ∧
      t.cru = cruOnLeavingActive s ∧ t.txe.conflict = 0 ∧ t.txe.mark = .none ∧
      t.fru.seen[FaultKind.diverged.code] = true ∧ t.isPending .syncState = true := by
  have htake := takeMarker_restart_diverged (o := o) (s := dropHolder s) (by simpa [dropHolder_sync] using hs)
    (by simpa using hd) (by simpa only [(dropHolder_samePeers s).own] using hp)
  have hstate : (markerTiming m o true (dropHolder s)).sync.state = .active := by
    simpa [markerTiming_sync, dropHolder_sync] using hs
  have hres := ((markerTiming_restarted m o s).relearn hstate .diverged .none).adopts
  obtain ⟨hrel, hptu, hcru, htxe, hseen, hsync, hhold⟩ := diverged_whole hstate
  have hholder : s.sync.holder = true → (markerTiming m o true (dropHolder s)).isPending .holder = true := by
    intro hh
    rw [markerTiming_isPending (by decide) (by decide) (by decide)]
    exact dropHolder_isPending_holder hh
  refine ⟨_, htake, hres, ?_⟩
  generalize degradeToRelearn .diverged .none (markerTiming m o true (dropHolder s)) = u
    at hrel hptu hcru htxe hseen hsync hhold
  have hatxe := adoptPresence_txe m u
  refine ⟨fun hh => ?_, by simpa using hrel,
    (segment_learnsFirst (.inr (by simpa using hrel)) (by simp [hptu, forget_forget])).1,
    ?_, ?_, ?_, by simpa using hseen, ?_⟩
  · rw [markerSegment_isPending, adoptPresence_isPending_other (by decide) (by decide)]
    exact hhold (hholder hh)
  · simp only [markerSegment_frame, adoptPresence_frame, hcru]
    exact cruOnLeavingActive_congr (by rw [hstate, hs]) (by simp)
  · simp only [markerSegment_frame]
    rw [hatxe, htxe]
  · simp only [markerSegment_frame]
    rw [hatxe, htxe]
  · rw [markerSegment_isPending, adoptPresence_isPending_other (by decide) (by decide)]
    exact hsync

/-- R81: a restart of an ACTIVE station that agrees with the marker. -/
theorem restart_agreed {m : Marker} {o : Int} {s : State} (hs : s.sync.state = .active)
    (hd : s.ptu.digestValue = m.digest) (hp : m.presence[s.own].isSome = true) : ∃ t,
    takeMarker m o true (dropHolder s) = t ∧ RestartedBy m s t ∧
      (s.sync.holder = true → t.isPending .holder = true) ∧ t.sync.state = .active ∧ t.ptu = s.ptu ∧ t.cru = s.cru ∧
      t.txe.mark = (foldMark s).txe.mark ∧ t.txe.conflict = (foldMark s).txe.conflict ∧
      (s.dlt.retry = [] → t.fru = s.fru) := by
  have hact : (dropHolder s).sync.state = .active := by simpa [dropHolder_sync] using hs
  have htake := takeMarker_restart (o := o) (s := dropHolder s) (by rw [hact]; rfl) (by simpa using fun _ => hd)
    (by simp [hact]) fun _ => by simpa only [(dropHolder_samePeers s).own] using hp
  have hstate : (markerTiming m o true (dropHolder s)).sync.state = .active := by rw [markerTiming_sync]; exact hact
  have hatxe := adoptPresence_txe m (markerTiming m o true (dropHolder s))
  have htxe : (markerTiming m o true (dropHolder s)).txe.mark = (foldMark s).txe.mark ∧
      (markerTiming m o true (dropHolder s)).txe.conflict = (foldMark s).txe.conflict := by
    rw [markerTiming_txe]
    split <;> simp [foldMark_txe]
  refine ⟨_, htake, (markerTiming_restarted m o s).adopts, fun hh => ?_, by simpa using hstate, ?_, by simp, ?_, ?_,
    fun hr => ?_⟩
  · rw [markerSegment_isPending, adoptPresence_isPending_other (by decide) (by decide),
      markerTiming_isPending (by decide) (by decide) (by decide)]
    exact dropHolder_isPending_holder hh
  · rw [markerSegment_elsewhere (by simp [hstate])]
    simp
  · simp only [markerSegment_frame]
    rw [hatxe]
    exact htxe.1
  · simp only [markerSegment_frame]
    rw [hatxe]
    exact htxe.2
  · have hfru := markerTiming_fru (m := m) (o := o) (s := dropHolder s) (.inr (by simpa using hr))
    simpa using hfru

/-- Settles O23. -/
theorem firstMarkerStartsLearning : Obligations.FirstMarkerStartsLearning := by
  refine ⟨fun b o m s hm ho hs => ?_, fun b o m s hm ho hs hc hh hp => ?_, fun b o m s hm ho hs hc hh => ?_,
    fun b o m s hm ho hs hp hc => ?_⟩
  · obtain ⟨t, ht, hstate, hcond, hnum, hholder, hlost, hlisten, htake, hpeers, hcru, hfru, hcfg, hpend,
      ⟨hdig, hfirst, -⟩, hmal⟩ :=
      firstMarker (m := m) (o := o) hs
    exact ⟨t, by rw [markerReceived_some o s hm, handleMarker_listening o ho hs, ht], hstate, hcond, hnum, hholder,
      hlost, hlisten, htake, hdig, hpeers, hcru, hfru, hcfg, hpend, hfirst, hmal⟩
  · have hna : s.sync.state ≠ .active := by rcases hs with hs | ⟨hs, -⟩ <;> simp [hs]
    have hlr : s.sync.state = .learning ∨ s.sync.state = .relearn := hs.imp id And.left
    have ht : s.sync.state.timed = true := by rcases hlr with h | h <;> simp [h, SyncState.timed]
    have hfull : s.ptu.full = false := by rw [hp]; rfl
    have hown : s.sync.state = .active ∨ s.sync.state = .relearn → m.presence[s.own].isSome = true := by
      rcases hs with hs | ⟨-, hs⟩
      · simp [hs]
      · exact fun _ => hs
    have htake := takeMarker_restart (o := o) ht (fun h => absurd h hna) (fun _ => hfull) hown
    have hres := (markerTiming_restarted m o s).adopts
    rw [dropHolder_of_not hh] at hres
    have hfirst := segment_learnsFirst (m := m) (s := adoptPresence m (markerTiming m o true s))
      (by simpa [markerTiming_sync] using hlr) (by simpa using hp)
    have hfru := markerTiming_fru (m := m) (o := o) (.inl hna)
    exact ⟨_, by rw [markerReceived_restart hm ho ht (.inl ⟨hc, hh⟩), dropHolder_of_not hh, htake], hres,
      by simp [markerTiming_sync], hfirst.1, by simpa using hfirst.2, by simp, by simpa using hfru⟩
  · have ht : s.sync.state.timed = true := by simp [hs, SyncState.timed]
    have htake := takeMarker_restart (o := o) (m := m) ht (by simp [hs]) (by simp [hs]) (by simp [hs])
    have hres := (markerTiming_restarted m o s).adopts
    rw [dropHolder_of_not hh] at hres
    have hfru := markerTiming_fru (m := m) (o := o) (s := s) (.inl (by simp [hs]))
    refine ⟨_, by rw [markerReceived_restart hm ho ht (.inl ⟨hc, hh⟩), dropHolder_of_not hh, htake], hres,
      by simp [markerTiming_sync, hs], ?_, by simp, by simpa using hfru⟩
    rw [markerSegment_elsewhere (by simp [markerTiming_sync, hs])]
    simp
  · have ht : s.sync.state.timed = true := by simp [hs, SyncState.timed]
    by_cases hd : s.ptu.digestValue = m.digest
    · obtain ⟨t, htake, hres, hhold, hstate, hptu, hcru, hmark, hconf, hfru⟩ := restart_agreed (o := o) hs hd hp
      refine ⟨t, by rw [markerReceived_restart hm ho ht hc, htake], hres, hhold,
        fun _ => ⟨hstate, hptu, hcru, ?_, ?_, hfru⟩, fun hn => absurd hd hn⟩
      · exact hmark.trans (congrArg Txe.mark (foldMark_txe s))
      · exact hconf.trans (congrArg Txe.conflict (foldMark_txe s))
    · obtain ⟨t, htake, hres, hhold, hrel⟩ := restart_diverged (o := o) hs hd hp
      exact ⟨t, by rw [markerReceived_restart hm ho ht hc, htake], hres, hhold, fun he => absurd he hd, fun _ => hrel⟩

end Sys2Proof.Machine

namespace Sys2Proof.Machine

/-! ## The table and the set of known segments (R19, R22) -/

theorem forget_table (p : Ptu) (k : Phase) : p.forget.table[k] = .unknown := by simp [Ptu.forget]

theorem forget_known (p : Ptu) (g : Fin 8) : p.forget.known[g] = false := by simp [Ptu.forget]

theorem found_table (p : Ptu) (k : Phase) : p.found.table[k] = .vacant := by simp [Ptu.found]

theorem found_known (p : Ptu) (g : Fin 8) : p.found.known[g] = true := by simp [Ptu.found]

theorem fullyKnown_iff (t : Vector Entry 96) : fullyKnown t = true ↔ ∀ k : Phase, t[k] ≠ .unknown := by
  simp only [fullyKnown, Bool.not_eq_true', List.contains_eq_mem, decide_eq_false_iff_not, Vector.mem_toList_iff,
    Vector.mem_iff_getElem, not_exists]
  exact ⟨fun h k hk => h k.val k.isLt hk, fun h i hi => h ⟨i, hi⟩⟩

/-- R19: an entry is UNKNOWN exactly while its segment is not known. -/
def Ptu.Aligned (p : Ptu) : Prop := ∀ k : Phase, p.table[k] = .unknown ↔ p.known[segmentOf k] = false

/-- R22, R29: so the table is fully known exactly while the set is full. -/
theorem Ptu.Aligned.fullyKnown_eq {p : Ptu} (h : p.Aligned) : fullyKnown p.table = p.full := by
  rw [Bool.eq_iff_iff, fullyKnown_iff, full_iff]
  refine ⟨fun hk g => ?_, fun hg k hk => ?_⟩
  · have hseg : segmentOf ⟨12 * g.val, by omega⟩ = g := Fin.ext (by simp [segmentOf])
    by_contra hn
    exact hk ⟨12 * g.val, by omega⟩ ((h _).mpr (by simpa [hseg] using hn))
  · have hfalse := (h k).mp hk
    rw [hg (segmentOf k)] at hfalse
    cases hfalse

theorem segmentEntry_ne_unknown {b : Byte} {e : Entry} (h : segmentEntry b = some e) : e ≠ .unknown := by
  rintro rfl
  revert h
  unfold segmentEntry
  (repeat' split) <;> simp

theorem segmentEntries_known {b : Vector Byte 12} {es : Vector Entry 12} (h : segmentEntries b = some es)
    (i : Fin 12) : es[i] ≠ .unknown := by
  unfold segmentEntries at h
  split at h
  · rename_i hall
    simp only [Vector.all_toList, Vector.all_eq_true] at hall
    obtain ⟨e, he⟩ := Option.isSome_iff_exists.mp (hall i.val i.isLt)
    obtain rfl := Option.some.inj h
    rw [getElem_fin_tab, show segmentEntry b[i] = some e from he]
    exact segmentEntry_ne_unknown he
  · cases h

theorem writeSegment_known (p : Ptu) (g : Fin 8) (es : Vector Entry 12) :
    (p.writeSegment g es).known = p.known.set g true := by
  unfold Ptu.writeSegment
  dsimp only
  split <;> rfl

theorem writeSegment_table (p : Ptu) (g : Fin 8) (es : Vector Entry 12) (k : Phase) : (p.writeSegment g es).table[k] =
    if segmentOf k = g then es[k.val % 12]'(by omega) else p.table[k] := by
  unfold Ptu.writeSegment
  dsimp only
  split <;> exact getElem_fin_tab _ k

/-- R22: the digest behind a segment. -/
theorem writeSegment_digest (p : Ptu) (g : Fin 8) (es : Vector Entry 12) : (p.writeSegment g es).digest =
    if (p.writeSegment g es).full then some (tableDigest (p.writeSegment g es).table) else p.digest := by
  unfold Ptu.writeSegment
  dsimp only
  split
  · rename_i h
    exact (if_pos h).symm
  · rfl

/-- R27: a segment whose entries are none of them UNKNOWN keeps table and set aligned. -/
theorem writeSegment_aligned {p : Ptu} (h : p.Aligned) (g : Fin 8) {es : Vector Entry 12}
    (hes : ∀ i : Fin 12, es[i] ≠ .unknown) : (p.writeSegment g es).Aligned := by
  intro k
  rw [writeSegment_table, writeSegment_known]
  by_cases hk : segmentOf k = g
  · have hne : es[k.val % 12]'(by omega) ≠ .unknown := hes ⟨k.val % 12, by omega⟩
    simp [hk, hne]
  · have hv : g.val ≠ (segmentOf k).val := fun he => hk (Fin.ext he.symm)
    simpa [hk, hv] using h k

/-- R29: a set that lacks a segment behind another one lacked it before. -/
theorem full_writeSegment {p : Ptu} (h : p.full = true) (g : Fin 8) (es : Vector Entry 12) :
    (p.writeSegment g es).full = true := by
  rw [full_iff] at h ⊢
  intro i
  have hi := h i
  rw [writeSegment_known]
  by_cases hg : g.val = i.val <;> simp_all

end Sys2Proof.Machine

namespace Sys2Proof.Machine

/-! ## The table stays sound, operation by operation -/

theorem TableSound.aligned {s : State} (h : TableSound s) : s.ptu.Aligned := h.segments

/-- `TableSound` speaks of the sync state and the PTU but for its attempts. -/
theorem TableSound.congr {s t : State} (h : TableSound s) (hs : t.sync.state = s.sync.state)
    (hp : { t.ptu with learnAttempts := s.ptu.learnAttempts } = s.ptu) : TableSound t := by
  obtain ⟨ht, hd, hk⟩ : t.ptu.table = s.ptu.table ∧ t.ptu.digest = s.ptu.digest ∧ t.ptu.known = s.ptu.known := by
    rw [← hp]; exact ⟨rfl, rfl, rfl⟩
  constructor
  · rw [hs, ht]; exact h.untimed
  · rw [ht, hk]; exact h.segments
  · rw [hs, hk]; exact h.full
  · rw [ht, hd]; exact h.digest

/-- Where the sync state and the PTU stand, the table stays sound. -/
theorem TableSound.same {s t : State} (h : TableSound s) (hs : t.sync.state = s.sync.state) (hp : t.ptu = s.ptu) :
    TableSound t := h.congr hs (by rw [hp])

/-- R26, R34: a forgotten table is sound wherever the set need not be full. -/
theorem TableSound.of_forgotten {t : State} (hp : t.ptu = t.ptu.forget)
    (hs : t.sync.state ≠ .joining ∧ t.sync.state ≠ .active) : TableSound t where
  untimed _ k := by rw [hp]; exact forget_table _ k
  segments k := by rw [hp]; exact ⟨fun _ => forget_known _ _, fun _ => forget_table _ k⟩
  full := by simp [hs]
  digest := by
    have hnot : ¬ fullyKnown t.ptu.table = true := by
      rw [fullyKnown_iff, hp]
      exact fun h => h 0 (forget_table _ 0)
    rw [if_neg hnot, hp]
    rfl

/-- R22: a table is sound where set and digest go with it and the sync state asks for a full set at most. -/
theorem TableSound.of_full {t : State} (ht : t.sync.state.timed = true) (hg : ∀ g : Fin 8, t.ptu.known[g] = true)
    (hk : ∀ k : Phase, t.ptu.table[k] ≠ .unknown) (hd : t.ptu.digest = some (tableDigest t.ptu.table)) :
    TableSound t where
  untimed hn := by rw [ht] at hn; cases hn
  segments k := by rw [hg]; exact ⟨fun he => absurd he (hk k), nofun⟩
  full _ := hg
  digest := by rw [hd, if_pos ((fullyKnown_iff _).mpr hk)]

/-- R19: a sound table with a full set stays sound in every timed state. -/
theorem TableSound.entered {s t : State} (h : TableSound s) (hf : s.ptu.full = true)
    (hp : { t.ptu with learnAttempts := s.ptu.learnAttempts } = s.ptu) (ht : t.sync.state.timed = true) :
    TableSound t := by
  have hfull : fullyKnown s.ptu.table = true := h.aligned.fullyKnown_eq.trans hf
  have hd := h.digest
  rw [if_pos hfull, ← hp] at hd
  rw [fullyKnown_iff, ← hp] at hfull
  rw [full_iff, ← hp] at hf
  exact .of_full ht hf hfull hd

theorem TableSound.full_of {s : State} (h : TableSound s) (hs : s.sync.state = .joining ∨ s.sync.state = .active) :
    s.ptu.full = true := (full_iff _).mpr (h.full hs)

theorem tableSound_recordFault {s : State} (h : TableSound s) (k : FaultKind) (ctx : FaultCtx) :
    TableSound (recordFault k ctx s) := h.same (by simp) (by simp)

theorem tableSound_withdrawNow (s : State) : TableSound (withdrawNow s) :=
  .of_forgotten (by simp [forget_forget]) (by simp [withdrawNow_sync])

theorem tableSound_fatal {s : State} (h : TableSound s) (k : FaultKind) (ctx : FaultCtx) :
    TableSound (fatal k ctx s) := by
  unfold fatal
  dsimp only
  split
  · exact tableSound_withdrawNow _
  · exact tableSound_recordFault h k ctx

theorem tableSound_enterListening (s : State) : TableSound (enterListening s) :=
  .of_forgotten rfl (by simp [enterListening_sync])

theorem tableSound_suspend {s : State} (h : TableSound s) : TableSound (suspend s) := by
  have hstate : (suspend s).sync.state = s.sync.state := by rw [suspend_sync]; split <;> rfl
  have hptu := suspend_ptu s
  split at hptu
  · rename_i hs
    exact .of_forgotten (by rw [hptu]; rfl) (by rcases hs with hs | hs <;> simp [hstate, hs])
  · exact h.same hstate hptu

theorem tableSound_degradeToRelearn {s : State} (h : TableSound s) (k : FaultKind) (ctx : FaultCtx) :
    TableSound (degradeToRelearn k ctx s) := by
  unfold degradeToRelearn
  dsimp only
  split
  · rename_i hs
    exact .of_forgotten (by simp [forget_forget]) (by rw [toRelearn_sync _ (by simpa using hs)]; simp)
  · exact tableSound_recordFault h k ctx

/-! ## Markers (R81) -/

theorem tableSound_markerTiming {s : State} (h : TableSound s) (m : Marker) (o : Int) (restart : Bool) :
    TableSound (markerTiming m o restart s) := h.same (by rw [markerTiming_sync]) (by simp)

theorem tableSound_markerLearn {s : State} (h : TableSound s) : TableSound (markerLearn s) := by
  unfold markerLearn
  split
  · exact .of_forgotten (by simp [forget_forget]) (by simp)
  · exact h

/-- R29: the learning comparison of a full set. -/
theorem tableSound_learningSuccess {s : State} (h : TableSound s) (hf : s.ptu.full = true) :
    TableSound (learningSuccess s) := by
  have hstate : (learningSuccess s).sync.state = if s.sync.state = .learning then .joining else .active := by
    simp [learningSuccess]
  refine h.entered hf (by simp [learningSuccess]) ?_
  rw [hstate]
  split <;> rfl

theorem tableSound_learningFailure {s : State} (h : TableSound s)
    (hs : s.sync.state = .learning ∨ s.sync.state = .relearn) : TableSound (learningFailure s) := by
  have hcounted : TableSound (s.withPtu { s.ptu with learnAttempts := s.ptu.learnAttempts + 1 }) := h.congr rfl rfl
  unfold learningFailure
  dsimp only
  split
  · exact .of_forgotten (by simp [forget_forget]) (by rcases hs with hs | hs <;> simp [hs])
  · exact tableSound_fatal hcounted _ _

theorem tableSound_markerCompare {s : State} (h : TableSound s) (m : Marker) : TableSound (markerCompare m s) := by
  unfold markerCompare
  split
  · split
    · exact h
    · exact tableSound_degradeToRelearn h _ _
  · split
    · rename_i hl
      split
      · exact tableSound_learningSuccess h hl.2
      · exact tableSound_learningFailure h hl.1
    · exact h

theorem tableSound_displacementTest {s : State} (h : TableSound s) : TableSound (displacementTest s) := by
  unfold displacementTest
  dsimp only
  split
  · split
    · exact tableSound_withdrawNow _
    · split
      · rename_i ha
        exact h.entered (h.full_of (.inr ha)) (by simp) (by simp [SyncState.timed])
      · exact .of_forgotten (by simp [forget_forget]) (by simp)
  · exact h

theorem tableSound_markerSegment {s : State} (h : TableSound s) (m : Marker) : TableSound (markerSegment m s) := by
  unfold markerSegment
  split
  · rename_i hs
    have htimed : s.sync.state.timed = true := by rcases hs with hs | hs <;> simp [hs, SyncState.timed]
    split
    · exact h
    · rename_i es hes
      have hal := writeSegment_aligned h.aligned (segmentOfCycle m.number) (segmentEntries_known hes)
      refine ⟨fun hn => ?_, hal, fun hf => ?_, ?_⟩
      · exact absurd (htimed.symm.trans hn) (by simp)
      · exact absurd hf (by rcases hs with hs | hs <;> simp [hs])
      · rw [State.withPtu_ptu, writeSegment_digest, hal.fullyKnown_eq]
        split
        · rfl
        · rename_i hn
          have hbefore : ¬ s.ptu.full = true := fun hf => hn (full_writeSegment hf _ _)
          rw [h.digest, h.aligned.fullyKnown_eq, if_neg hbefore]
  · exact h

theorem tableSound_takeMarker {s : State} (h : TableSound s) (m : Marker) (o : Int) (restart : Bool) :
    TableSound (takeMarker m o restart s) := by
  have hcmp := tableSound_markerCompare (tableSound_markerLearn (tableSound_markerTiming h m o restart)) m
  unfold takeMarker
  dsimp only
  split
  · exact hcmp
  · exact tableSound_markerSegment (tableSound_displacementTest (hcmp.same (by simp) (by simp))) m

theorem tableSound_handleMarker {s : State} (h : TableSound s) (m : Marker) (o : Int) :
    TableSound (handleMarker m o s) := by
  unfold handleMarker
  (repeat' split)
  · exact h
  · exact tableSound_fatal h _ _
  · exact tableSound_takeMarker h _ _ _
  · exact tableSound_takeMarker (h.same (by rw [dropHolder_sync]) (by simp)) _ _ _
  · exact h
  · exact tableSound_takeMarker h _ _ _
  · exact tableSound_takeMarker h _ _ _
  · exact h

theorem tableSound_takeMarkerBytes {s : State} (h : TableSound s) (o : Int) (g : Bool) (b : List Byte) :
    TableSound (takeMarkerBytes o g b s) := by
  unfold takeMarkerBytes
  (repeat' split)
  · exact h
  · exact tableSound_recordFault h _ _
  · exact h
  · exact tableSound_handleMarker h _ _

end Sys2Proof.Machine

namespace Sys2Proof.Machine

/-! ## Roll words, data frames and read-backs -/

theorem tableSound_checkRollWord {s : State} (h : TableSound s) (k : Addr) (w : RollWord) :
    TableSound (checkRollWord k w s) := by
  unfold checkRollWord
  (repeat' split)
  · exact tableSound_recordFault h _ _
  · exact tableSound_fatal h _ _
  · exact tableSound_recordFault h _ _
  · exact tableSound_recordFault h _ _
  · exact h.same (by simp) (by simp)

theorem tableSound_takeRollBytes {s : State} (h : TableSound s) (k : Addr) (g : Bool) (b : List Byte) :
    TableSound (takeRollBytes k g b s) := by
  have hhad : TableSound (rollHad k s) := h.same rfl rfl
  unfold takeRollBytes
  (repeat' split)
  · exact tableSound_recordFault h _ _
  · exact h.same (by simp) (by simp)
  · exact h
  · exact tableSound_recordFault hhad _ _
  · exact tableSound_checkRollWord hhad _ _
  · exact h

theorem tableSound_takeDataBytes {s : State} (h : TableSound s) (k : Phase) (g : Bool) (b : List Byte) :
    TableSound (takeDataBytes k g b s) := by
  unfold takeDataBytes
  (repeat' split)
  · exact tableSound_recordFault h _ _
  · exact h.same (by simp) (by simp)
  · exact h
  · exact h.same (by simp) (by simp)
  · exact h

theorem tableSound_rollSlotDamaged {s t : State} (h : TableSound s) (k : Addr) (g : Bool)
    (ht : exec (.rollSlotDamaged k g) s = .next t) : TableSound t := by
  obtain rfl := next_inj ht
  dsimp only
  (repeat' split) <;> exact h.same (by simp) (by simp)

theorem tableSound_dataPhaseDamaged {s t : State} (h : TableSound s) (k : Phase) (g : Bool)
    (ht : exec (.dataPhaseDamaged k g) s = .next t) : TableSound t := by
  obtain rfl := next_inj ht
  dsimp only
  (repeat' split) <;> exact h.same (by simp) (by simp)

theorem tableSound_markerLost {s : State} (h : TableSound s) : TableSound (markerLost s) := by
  unfold markerLost
  dsimp only
  split
  · exact h.same (by simp) (by simp)
  · exact tableSound_suspend (h.same (by simp) (by simp))

theorem tableSound_markerSlotEnd {s t : State} (h : TableSound s) (g : Bool)
    (ht : exec (.markerSlotEnd g) s = .next t) : TableSound t := by
  obtain rfl := next_inj ht
  split
  · split
    · exact tableSound_recordFault h _ _
    · exact h
  · dsimp only
    split
    · exact tableSound_markerLost (h.same rfl rfl)
    · exact h.same rfl rfl

/-- R11, R86. -/
theorem tableSound_ownMarkerReadBack {s t : State} (h : TableSound s) (r : Reception)
    (ht : exec (.ownMarkerReadBack r) s = .next t) : TableSound t := by
  obtain rfl := next_inj ht
  split
  · dsimp only
    (repeat' split)
    · exact h.same rfl rfl
    · exact h.same (by simp) (by simp)
    · exact tableSound_suspend (h.same (by simp [dropHolder_sync]) (by simp))
  · exact h

theorem tableSound_rollCollision {s : State} (h : TableSound s) : TableSound (rollCollision s) := by
  have hcounted : TableSound (s.withRcm { s.rcm with ownCollisions := s.rcm.ownCollisions + 1 }) := h.same rfl rfl
  unfold rollCollision
  dsimp only
  split
  · exact hcounted
  · exact tableSound_fatal hcounted _ _

/-- R11, R39. -/
theorem tableSound_ownRollReadBack {s t : State} (h : TableSound s) (r : Reception)
    (ht : exec (.ownRollReadBack r) s = .next t) : TableSound t := by
  have hcut : TableSound (rollHad s.own (cutTransmission s)) := h.same rfl rfl
  obtain rfl := next_inj ht
  split
  · dsimp only
    (repeat' split)
    · exact hcut
    · exact hcut.same rfl rfl
    · exact tableSound_fatal hcut _ _
    · exact tableSound_rollCollision hcut
  · exact h

theorem tableSound_phaseCollision {s : State} (h : TableSound s) (k : Phase) : TableSound (phaseCollision k s) := by
  have hfault := tableSound_recordFault h .txCollision (.phase k)
  unfold phaseCollision
  dsimp only
  (repeat' split)
  · exact hfault
  · exact hfault.same rfl rfl
  · exact tableSound_degradeToRelearn hfault _ _

theorem tableSound_readBackDone {s : State} (h : TableSound s) (k : Phase) (bcast : Option Cls) (ok : Bool) :
    TableSound (readBackDone k bcast ok s) := by
  cases bcast with
  | none => rw [readBackDone_none]; exact h.same rfl rfl
  | some c => exact h.same (by simp [readBackDone]) (by simp [readBackDone])

/-- R11, R111, R112. -/
theorem tableSound_ownDataReadBack {s t : State} (h : TableSound s) (r : Reception)
    (ht : exec (.ownDataReadBack r) s = .next t) : TableSound t := by
  by_cases htx : ∃ k c b, s.lif.tx = some { frame := .data k c, bytes := b }
  · obtain ⟨k, c, b, htx⟩ := htx
    rw [exec_ownDataReadBack htx] at ht
    obtain rfl := next_inj ht
    split
    · exact (tableSound_readBackDone h k c true).same (by simp) (by simp)
    · exact tableSound_phaseCollision (tableSound_readBackDone h k c false) k
  · obtain rfl := next_inj ht
    split
    · exact absurd ⟨_, _, _, ‹_›⟩ htx
    · exact h

end Sys2Proof.Machine

namespace Sys2Proof.Machine

/-! ## Cycle events and timers -/

/-- R14, R85, R89. -/
theorem tableSound_cycleStart {s t : State} (h : TableSound s) (ht : exec .cycleStart s = .next t) : TableSound t := by
  obtain rfl := next_inj ht
  split
  · dsimp only
    (repeat' split)
    · exact tableSound_suspend (h.same (by simp) (by simp))
    · exact h.same (by simp) (by simp)
    · exact h.same (by simp) (by simp)
  · exact h

/-- R35: the own roll slot touches neither the sync state nor the table. -/
theorem tableSound_ownRollSlot {s t : State} (h : TableSound s) (ht : exec .ownRollSlot s = .next t) :
    TableSound t := by
  obtain rfl := next_inj ht
  split
  · (repeat' split) <;> exact h.same rfl rfl
  · exact h

/-- R90, R92, R94. -/
theorem tableSound_listenTimerExpiry {s t : State} (h : TableSound s) (ht : exec .listenTimerExpiry s = .next t) :
    TableSound t := by
  obtain rfl := next_inj ht
  (repeat' split)
  · exact h.same rfl rfl
  · exact tableSound_withdrawNow s
  · exact tableSound_enterListening _
  · exact h
  · exact h

theorem tableSound_foundBus (s : State) : TableSound (foundBus s) := by
  have hptu : (foundBus s).ptu = s.ptu.found := by simp [foundBus]
  refine .of_full (by simp [foundBus_sync, SyncState.timed]) ?_ ?_ ?_ <;> rw [hptu]
  · exact found_known _
  · exact fun k => by rw [found_table]; simp
  · rfl

/-- R91, R92. -/
theorem tableSound_takeoverTimerExpiry {s t : State} (h : TableSound s)
    (ht : exec .takeoverTimerExpiry s = .next t) : TableSound t := by
  obtain rfl := next_inj ht
  (repeat' split)
  · exact (tableSound_foundBus s).same (by simp) (by simp)
  · exact tableSound_withdrawNow s
  · exact h.same (by simp [takeTiming_sync]) (by simp)
  · exact h
  · exact h

theorem tableSound_lineFaultTimerExpiry {s t : State} (h : TableSound s) (g : Bool)
    (ht : exec (.lineFaultTimerExpiry g) s = .next t) : TableSound t := by
  obtain rfl := next_inj ht
  (repeat' split)
  · exact tableSound_recordFault h _ _
  · exact h
  · exact tableSound_fatal (s := s.withLif { s.lif with lineFaultTimer := .stopped }) (h.same rfl rfl) _ _
  · exact h

end Sys2Proof.Machine

namespace Sys2Proof.Machine

/-! ## The close (R67 to R73): no stage makes an entry UNKNOWN or known -/

/-- The same entries are UNKNOWN, and the same segments known. -/
def SameUnknown (p q : Ptu) : Prop :=
  q.known = p.known ∧ ∀ k : Phase, q.table[k] = .unknown ↔ p.table[k] = .unknown

theorem SameUnknown.refl (p : Ptu) : SameUnknown p p := ⟨rfl, fun _ => Iff.rfl⟩

theorem SameUnknown.trans {p q r : Ptu} (h : SameUnknown p q) (h' : SameUnknown q r) : SameUnknown p r :=
  ⟨h'.1.trans h.1, fun k => (h'.2 k).trans (h.2 k)⟩

theorem departAtClose_sameUnknown (a : Addr) (why : DepartReason) (s : State) :
    SameUnknown s.ptu (departAtClose a why s).ptu := by
  rw [departAtClose_ptu]
  refine ⟨rfl, fun k => ?_⟩
  dsimp only [coolOwner]
  rw [getElem_fin_tab]
  split
  · rename_i ho
    simp [ho]
  · exact Iff.rfl

theorem arrive_sameUnknown {p : Ptu} {s : State} (h : SameUnknown p s.ptu) (a : Addr) (d : Bool) :
    SameUnknown p (arrive a d s).ptu := by simpa using h

theorem decideOwn_sameUnknown (s : State) : SameUnknown s.ptu (decideOwn s).ptu := by
  unfold decideOwn
  (repeat' split)
  · exact .refl _
  · exact arrive_sameUnknown (departAtClose_sameUnknown _ _ s) _ _
  · exact arrive_sameUnknown (.refl _) _ _
  · exact .refl _
  · exact .refl _
  · exact .refl _

theorem decidePeer_sameUnknown (a : Addr) (s : State) : SameUnknown s.ptu (decidePeer a s).ptu := by
  unfold decidePeer
  (repeat' split)
  · exact departAtClose_sameUnknown _ _ s
  · exact .refl _
  · exact departAtClose_sameUnknown _ _ s
  · exact arrive_sameUnknown (departAtClose_sameUnknown _ _ s) _ _
  · exact .refl _
  · exact arrive_sameUnknown (.refl _) _ _
  · exact .refl _
  · exact .refl _

theorem decideMember_sameUnknown (s : State) (a : Addr) : SameUnknown s.ptu (decideMember s a).ptu := by
  unfold decideMember
  split
  · exact decideOwn_sameUnknown s
  · exact decidePeer_sameUnknown a s

/-- R69: stage 1. -/
theorem membershipStage_sameUnknown (s : State) : SameUnknown s.ptu (membershipStage s).ptu := by
  unfold membershipStage
  dsimp only
  rw [State.withRcm_ptu]
  exact foldl_holds (P := fun u => SameUnknown s.ptu u.ptu) (fun u a hu => hu.trans (decideMember_sameUnknown u a)) _ _
    (.refl _)

theorem releaseEntry_unknown (r : Rcm) (k : Phase) (e : Entry) : releaseEntry r k e = .unknown ↔ e = .unknown := by
  unfold releaseEntry
  (repeat' split) <;> simp

theorem claimEntry_unknown (r : Rcm) (k : Phase) (began e : Entry) :
    claimEntry r k began e = .unknown ↔ e = .unknown := by
  unfold claimEntry
  split
  · rename_i hv
    split <;> simp [hv.2]
  · exact Iff.rfl

theorem coolEntry_unknown {began e : Entry} (h : e = .unknown ↔ began = .unknown) :
    coolEntry began e = .unknown ↔ began = .unknown := by
  cases began <;> simp_all [coolEntry]

/-- R70 to R72: the table behind stages 2 to 4. -/
def closedTable (s : State) : Vector Entry 96 :=
  coolingStage s.ptu.table (claimStage (membershipStage s).rcm s.ptu.table
    (releaseStage (membershipStage s).rcm (membershipStage s).ptu.table))

/-- R73: the PTU behind a close. -/
theorem close_ptu (s : State) : (close s).ptu =
    { (membershipStage s).ptu with table := closedTable s, digest := digestOf (closedTable s) } := by
  unfold close closedTable
  dsimp only
  split <;> simp

/-- R67 to R73: a close leaves the same entries UNKNOWN. -/
theorem close_sameUnknown (s : State) : SameUnknown s.ptu (close s).ptu := by
  obtain ⟨hknown, hsame⟩ := membershipStage_sameUnknown s
  rw [close_ptu]
  refine ⟨by dsimp only; exact hknown, fun k => ?_⟩
  dsimp only [closedTable, coolingStage, claimStage, releaseStage]
  simp only [getElem_fin_tab]
  exact coolEntry_unknown (by rw [claimEntry_unknown, releaseEntry_unknown]; exact hsame k)

theorem tableSound_close {s : State} (h : TableSound s) (ht : s.sync.state.timed = true) : TableSound (close s) := by
  obtain ⟨hknown, hsame⟩ := close_sameUnknown s
  have hstate : (close s).sync.state = s.sync.state ∨
      s.sync.state = .joining ∧ (close s).sync.state = .active := by
    obtain ⟨u, hu, hc | ⟨hj, hc⟩⟩ := close_cases s
    · exact .inl (by rw [hc, hu.sync, membershipStage_state])
    · exact .inr ⟨hj, by rw [hc]; rfl⟩
  refine ⟨fun hn => ?_, fun k => ?_, fun hf => ?_, by rw [close_ptu, digestOf]⟩
  · rcases hstate with hst | ⟨-, hst⟩
    · rw [hst, ht] at hn; cases hn
    · rw [hst] at hn; cases hn
  · rw [hsame k, hknown]
    exact h.segments k
  · rw [hknown]
    rcases hstate with hst | ⟨hj, -⟩
    · exact h.full (by rwa [hst] at hf)
    · exact h.full (.inl hj)

end Sys2Proof.Machine

namespace Sys2Proof.Machine

/-! ## Resets, START and the host port -/

theorem TableSound.of_reset {t : State} (hs : t.sync.state = .start ∨ t.sync.state = .offline)
    (hp : t.ptu = Ptu.reset) : TableSound t :=
  .of_forgotten (by rw [hp]; rfl) (by rcases hs with hs | hs <;> simp [hs])

/-- R167: at step 7 of START. -/
theorem tableSound_leaveStart {s : State} (hp : s.ptu = Ptu.reset) : TableSound (leaveStart s) := by
  unfold leaveStart
  dsimp only
  split
  · exact tableSound_enterListening _
  · exact .of_reset (.inr rfl) hp

theorem tableSound_finishStart {s : State} (hp : s.ptu = Ptu.reset) (c : Configuration) (src : ConfigSource)
    (why : Option FailReason) : TableSound (finishStart c src why s) := by
  unfold finishStart
  dsimp only
  apply tableSound_leaveStart
  split <;> simp [hp]

theorem tableSound_attemptFailed {s : State} (hs : s.sync.state = .start) (hp : s.ptu = Ptu.reset) (why : FailReason) :
    TableSound (attemptFailed why s) := by
  unfold attemptFailed
  split
  · exact .of_reset (.inl hs) hp
  · exact tableSound_finishStart hp _ _ _

theorem tableSound_beginAttempt {s : State} (hs : s.sync.state = .start) (hp : s.ptu = Ptu.reset) (n : Nat) :
    TableSound (beginAttempt n s) := by
  unfold beginAttempt
  dsimp only
  split
  · exact .of_reset (.inl hs) hp
  · exact tableSound_attemptFailed (by simpa using hs) (by simpa using hp) _

theorem StartSound.table {s : State} (h : StartSound s) (hs : s.cfg.step ≠ .done) :
    s.sync.state = .start ∧ s.ptu = Ptu.reset := by
  obtain ⟨-, hsync, hptu, -⟩ := h hs
  exact ⟨by rw [hsync]; rfl, hptu⟩

/-- The commands of START find the table at its reset values. -/
theorem tableSound_start {s t : State} {i : Instr} (h : TableSound s) (hst : StartSound s)
    (hi : (∃ p n, i = .start p n) ∨ (∃ r, i = .readAttemptEnd r) ∨ (∃ n, i = .sclHoldTimeout n) ∨
      ∃ n, i = .retryWaitExpiry n) (ht : exec i s = .next t) : TableSound t := by
  rcases hi with ⟨p, n, rfl⟩ | ⟨r, rfl⟩ | ⟨n, rfl⟩ | ⟨n, rfl⟩ <;> obtain rfl := next_inj ht <;> split
  · rename_i hs
    obtain ⟨hy, hp⟩ := hst.table (by rcases hs with hs | hs <;> simp [hs])
    dsimp only
    split
    · exact tableSound_beginAttempt (by exact hy) (by exact hp) n
    · exact tableSound_finishStart (by exact hp) _ _ _
  · exact h
  · rename_i hs
    obtain ⟨hy, hp⟩ := hst.table (by simp [hs])
    dsimp only
    (repeat' split)
    · exact tableSound_finishStart (by exact hp) _ _ _
    · exact tableSound_finishStart (by exact hp) _ _ _
    · exact tableSound_attemptFailed (by exact hy) (by exact hp) _
  · exact h
  · rename_i hs
    obtain ⟨hy, hp⟩ := hst.table (by simp [hs])
    exact tableSound_attemptFailed (by exact hy) (by exact hp) _
  · exact h
  · rename_i hs
    obtain ⟨hy, hp⟩ := hst.table (by simp [hs])
    exact tableSound_beginAttempt (by exact hy) (by exact hp) n
  · exact h

/-- R172: a request keeps the table sound where its rule does. -/
theorem tableSound_takeRequest {s : State} (h : TableSound s) (code : Byte) (ok : Bool) (args : List Byte)
    {rule : State → Result} (hr : TableSound (rule s).state) : TableSound (takeRequest code ok args rule s) := by
  rcases takeRequest_cases code ok args rule s with he | ⟨st, he⟩ | ⟨-, he⟩ <;> rw [he]
  · exact h
  · exact h.same rfl rfl
  · exact hr.same rfl rfl

theorem tableSound_join {s t : State} (h : TableSound s) (args : List Byte) (ht : exec (.join args) s = .next t) :
    TableSound t := by
  obtain rfl := next_inj ht
  refine tableSound_takeRequest h _ _ _ ?_
  split
  · exact tableSound_enterListening _
  · exact h

theorem tableSound_withdraw {s t : State} (h : TableSound s) (args : List Byte)
    (ht : exec (.withdraw args) s = .next t) : TableSound t := by
  obtain rfl := next_inj ht
  refine tableSound_takeRequest h _ _ _ ?_
  unfold withdrawRule
  split
  case h_1 | h_2 => exact h.same rfl rfl
  case h_4 | h_5 => exact tableSound_withdrawNow s
  all_goals exact h

theorem tableSound_transactionEnd {s t : State} (h : TableSound s) (n : Nat)
    (ht : exec (.transactionEnd n) s = .next t) : TableSound t := by
  obtain rfl := next_inj ht
  (repeat' split)
  · exact h
  · exact .of_reset (.inl rfl) rfl
  · exact tableSound_recordFault (s := portIdle s) (h.same rfl rfl) _ _
  · exact h.same rfl rfl

/-- The commands of the host port that reach neither the line nor the sync state leave the PTU alone. -/
theorem exec_portOnly_ptu {i : Instr} {s t : State} (hi : portOnly i = true) (ht : exec i s = .next t) :
    t.ptu = s.ptu := by
  cases i with
  | transactionBegin _ | badRequest _ _ | popRxCommit | popDoneCommit =>
    obtain rfl := next_inj ht
    (repeat' split) <;> simp
  | status _ | readFaults _ | clearFaults _ | readEvents _ | applyPattern _ | softReset _ | readConfig _ =>
    obtain rfl := next_inj ht
    exact takeRequest_keeps State.ptu (fun _ _ => rfl) _ _ _ _ _ rfl
  | popRx _ | popDone _ | releaseAll _ =>
    obtain rfl := next_inj ht
    apply takeRequest_keeps State.ptu (fun _ _ => rfl)
    split <;> rfl
  | push _ | claim _ | claimAt _ | release _ | readTable _ | ackEvents _ | setEnables _ | stagePattern _ =>
    obtain rfl := next_inj ht
    apply takeRequest_keeps State.ptu (fun _ _ => rfl)
    dsimp only [pushRule, claimRule, claimAtRule, releaseRule, readTableRule, ackEventsRule, setEnablesRule,
      stagePatternRule]
    (repeat' split) <;> rfl
  | _ => cases hi

/-- Every command keeps the table sound. -/
theorem exec_tableSound (i : Instr) (s t : State) (hst : StartSound s) (h : TableSound s)
    (ht : exec i s = .next t) : TableSound t := by
  have hrx : ∀ b, TableSound (s.withLif { s.lif with rx := b }) := fun _ => h.same rfl rfl
  cases i with
  | powerOnReset | pinReset => obtain rfl := next_inj ht; exact .of_reset (.inl rfl) rfl
  | start p n => exact tableSound_start h hst (.inl ⟨p, n, rfl⟩) ht
  | readAttemptEnd r => exact tableSound_start h hst (.inr (.inl ⟨r, rfl⟩)) ht
  | sclHoldTimeout n => exact tableSound_start h hst (.inr (.inr (.inl ⟨n, rfl⟩))) ht
  | retryWaitExpiry n => exact tableSound_start h hst (.inr (.inr (.inr ⟨n, rfl⟩))) ht
  | transactionEnd n => exact tableSound_transactionEnd h n ht
  | join args => exact tableSound_join h args ht
  | withdraw args => exact tableSound_withdraw h args ht
  | markerReceived b o p g =>
    obtain rfl := next_inj ht
    exact hear_leads h (fun _ => hrx _) (tableSound_takeMarkerBytes h o g) (tableSound_takeMarkerBytes (hrx none) o g)
  | markerSlotEnd g => exact tableSound_markerSlotEnd h g ht
  | rollWordReceived k b p g =>
    obtain rfl := next_inj ht
    exact hear_leads h (fun _ => hrx _) (tableSound_takeRollBytes h k g) (tableSound_takeRollBytes (hrx none) k g)
  | rollSlotDamaged k g => exact tableSound_rollSlotDamaged h k g ht
  | dataFrameReceived k b p g =>
    obtain rfl := next_inj ht
    exact hear_leads h (fun _ => hrx _) (tableSound_takeDataBytes h k g) (tableSound_takeDataBytes (hrx none) k g)
  | dataPhaseDamaged k g => exact tableSound_dataPhaseDamaged h k g ht
  | ownMarkerReadBack r => exact tableSound_ownMarkerReadBack h r ht
  | ownRollReadBack r => exact tableSound_ownRollReadBack h r ht
  | ownDataReadBack r => exact tableSound_ownDataReadBack h r ht
  | cycleStart => exact tableSound_cycleStart h ht
  | ownRollSlot => exact tableSound_ownRollSlot h ht
  | leaveSlotEnd =>
    obtain rfl := next_inj ht
    split
    · exact tableSound_withdrawNow s
    · exact h
  | rollCallClose =>
    obtain rfl := next_inj ht
    split
    · rename_i hs
      exact tableSound_close h (slotTiming_timed hs)
    · exact h
  | dataPhase k =>
    obtain rfl := next_inj ht
    split
    · exact h.same (by simp) (by simp)
    · exact h
  | listenTimerExpiry => exact tableSound_listenTimerExpiry h ht
  | takeoverTimerExpiry => exact tableSound_takeoverTimerExpiry h ht
  | lineFaultTimerExpiry g => exact tableSound_lineFaultTimerExpiry h g ht
  | _ => exact h.same (by rw [(exec_sameLine rfl ht).sync]) (exec_portOnly_ptu rfl ht)

/-- Settles O54: each command keeps the table sound, by what it does to the sync state and the PTU. -/
theorem theTableStaysSound : Obligations.TheTableStaysSound := by
  intro s t hst h
  refine step_leads (P := fun s => StartSound s ∧ TableSound s) (fun _ hs => hs.2) (fun _ _ hs => ?_)
    (fun _ _ hs => ?_) (fun i s t hs => exec_tableSound i s t hs.1 hs.2) s t ⟨hst, h⟩
  · exact ⟨hs.1, hs.2.same rfl rfl⟩
  · exact ⟨hs.1, hs.2.same rfl rfl⟩

end Sys2Proof.Machine

namespace Sys2Proof.Machine

/-! ## Founding and taking the timing (R85, R91, R92) -/

theorem takeoverTimerExpiry_listening {n : Nat} {s : State} (hn : s.sync.takeoverTimer = .running n)
    (hs : s.sync.state = .listening) :
    exec .takeoverTimerExpiry s = .next (sendMarker (produceCycleStart (foundBus s))) := by
  simp [exec, execTakeoverTimerExpiry, hn, Timer.runs, hs]

theorem takeoverTimerExpiry_suspended {n : Nat} {s : State} (hn : s.sync.takeoverTimer = .running n)
    (hs : s.sync.state = .active) (hc : s.sync.cond = .suspended) (hw : s.sync.withdrawPending = false) :
    exec .takeoverTimerExpiry s = .next (sendMarker (produceCycleStart (takeTiming s))) := by
  simp [exec, execTakeoverTimerExpiry, hn, Timer.runs, hs, hc, hw]

theorem takeoverTimerExpiry_withdraws {n : Nat} {s : State} (hn : s.sync.takeoverTimer = .running n)
    (hs : s.sync.state = .active) (hc : s.sync.cond = .suspended) (hw : s.sync.withdrawPending = true) :
    exec .takeoverTimerExpiry s = .next (withdrawNow s) := by
  simp [exec, execTakeoverTimerExpiry, hn, Timer.runs, hs, hc, hw]

theorem takeoverTimerExpiry_stopped {s : State} (h : s.sync.takeoverTimer = .stopped) :
    exec .takeoverTimerExpiry s = .next s := by
  simp [exec, execTakeoverTimerExpiry, h, Timer.runs]

/-- R85: the work of a cycle start changes nothing that the marker of the cycle carries. -/
theorem ownMarker_produceCycleStart (s : State) : ownMarker (produceCycleStart s) = ownMarker s := by
  simp [ownMarker, State.cycle, State.own]

theorem sendMarker_isPending (s : State) (e : Event) : (sendMarker s).isPending e = s.isPending e := rfl

/-- R85: LIF when a holder begins a cycle with its marker. -/
theorem sendMarker_produceCycleStart_lif (s : State) : (sendMarker (produceCycleStart s)).lif = { s.lif with
    tx := some { frame := .marker, bytes := (ownMarker s).bytes }, rollDone := Vector.replicate 32 false
    phaseDone := Vector.replicate 96 false } := by
  simp [ownMarker_produceCycleStart]

theorem foundBus_ptu (s : State) : (foundBus s).ptu = s.ptu.found := by simp [foundBus]

theorem foundBus_rcm (s : State) : (foundBus s).rcm = { s.rcm.clear s.cfg.config.absenceLimit with
    presence := (Vector.replicate 32 none).set s.own (some 0) } := by
  simp [foundBus, Rcm.clear, State.own]

theorem foundBus_isPending (s : State) (e : Event) : (foundBus s).isPending e =
    (decide (Event.holder = e) || (decide (Event.syncState = e) || s.isPending e)) := by
  unfold foundBus
  rw [post_isPending, enter_isPending]
  rfl

theorem takeTiming_rcm (s : State) :
    (takeTiming s).rcm = { s.rcm with absenceLimit := s.cfg.config.absenceLimit } := by
  simp [takeTiming]

theorem takeTiming_isPending (s : State) (e : Event) :
    (takeTiming s).isPending e = (decide (Event.holder = e) || s.isPending e) := by
  unfold takeTiming
  rw [post_isPending]
  rfl

/-- R22, R33: the digest of a founder's table. -/
theorem found_digest (p : Ptu) : p.found.digest = some (crc16 (List.replicate 96 0x00#8)) := by
  simp only [Ptu.found, tableDigest, Vector.toList_replicate, List.map_replicate, Entry.byte]

theorem segmentBytes_found (p : Ptu) (g : Fin 8) : segmentBytes p.found.table g = Vector.replicate 12 0x00#8 := by
  apply Vector.ext
  intro i hi
  simp [segmentBytes, Ptu.found, Entry.byte]

/-- R54, R92: the founder's map holds its own address alone. -/
theorem foundBus_presence (s : State) (a : Addr) :
    (foundBus s).rcm.presence[a] = if a = s.own then some 0 else none := by
  rw [foundBus_rcm]
  by_cases h : a = s.own
  · simp [h]
  · have hv : s.own.val ≠ a.val := fun he => h (Fin.ext he.symm)
    simp [h, hv]

/-- R33, R54, R92: a LISTENING station founds the bus. -/
theorem takeover_founds {n : Nat} {s : State} (hn : s.sync.takeoverTimer = .running n)
    (hs : s.sync.state = .listening) : ∃ (t : State) (m : Marker), exec .takeoverTimerExpiry s = .next t ∧
      t.sync = { Sync.reset with
        state := .active, cond := .running, holder := true, holderAddr := some s.own, cycleNumber := some 0#16 } ∧
      t.ptu = s.ptu.found ∧ (∀ a : Addr, t.rcm.presence[a] = if a = s.own then some 0 else none) ∧
      t.rcm.absenceLimit = s.cfg.config.absenceLimit ∧ (∀ a : Addr, t.rcm.degraded[a] = false) ∧
      t.lif = { s.lif with
        tx := some { frame := .marker, bytes := m.bytes }, rollDone := Vector.replicate 32 false
        phaseDone := Vector.replicate 96 false } ∧
      m = ownMarker (foundBus s) ∧ m.presence = t.rcm.presence ∧
      t.isPending .syncState = true ∧ t.isPending .holder = true ∧ t.cru = s.cru ∧ t.rxe = s.rxe ∧ t.cfg = s.cfg ∧
      (s.dlt.retry = [] → t.dlt = s.dlt ∧ t.fru = s.fru) := by
  have hrcm : (sendMarker (produceCycleStart (foundBus s))).rcm.presence = (foundBus s).rcm.presence := by simp
  have hpend : ∀ e, e ≠ .doneReady → e ≠ .fault → e ≠ .patternApplied →
      (sendMarker (produceCycleStart (foundBus s))).isPending e = (foundBus s).isPending e := fun e hd hf hp => by
    rw [sendMarker_isPending, produceCycleStart_isPending hd hf hp]
  refine ⟨_, ownMarker (foundBus s), takeoverTimerExpiry_listening hn hs, by simp [foundBus_sync, Sync.stop, Sync.reset],
    by simp [foundBus_ptu], fun a => by rw [hrcm]; exact foundBus_presence s a, by simp [foundBus_rcm, Rcm.clear],
    fun a => by simp [foundBus_rcm, Rcm.clear], by rw [sendMarker_produceCycleStart_lif]; simp, rfl, hrcm.symm,
    ?_, ?_, by simp, by simp, by simp, fun hr => ?_⟩
  · rw [hpend _ (by decide) (by decide) (by decide), foundBus_isPending]; rfl
  · rw [hpend _ (by decide) (by decide) (by decide), foundBus_isPending]; rfl
  · obtain ⟨hdlt, hfru, -⟩ := produceCycleStart_without_aging (s := foundBus s) (.inr (by simpa using hr))
    simp [hdlt, hfru]

/-- R24, R85, R91: a suspended ACTIVE station takes the timing. -/
theorem takeover_takes {n : Nat} {c : Half} {s : State} (hn : s.sync.takeoverTimer = .running n)
    (hs : s.sync.state = .active) (hc : s.sync.cond = .suspended) (hw : s.sync.withdrawPending = false)
    (hnum : s.sync.cycleNumber = some c) : ∃ t : State, exec .takeoverTimerExpiry s = .next t ∧
      t.sync = { s.sync with
        cond := .running, holder := true, holderAddr := some s.own, holderVacant := false, lost := 0
        cycleNumber := some (c + 1#16), takeoverTimer := .stopped, markerDone := false, leaveSent := false
        cycleShift := 0 } ∧
      t.rcm.absenceLimit = s.cfg.config.absenceLimit ∧ t.rcm.presence = s.rcm.presence ∧
      t.lif = { s.lif with
        tx := some { frame := .marker, bytes := (ownMarker (takeTiming s)).bytes }
        rollDone := Vector.replicate 32 false, phaseDone := Vector.replicate 96 false } ∧
      t.isPending .holder = true ∧ t.ptu = s.ptu ∧ t.cru = s.cru ∧ t.rxe = s.rxe ∧ t.cfg = s.cfg := by
  refine ⟨_, takeoverTimerExpiry_suspended hn hs hc hw,
    by simp [takeTiming_sync, hnum, nextNumber], by simp [takeTiming_rcm], by simp [takeTiming_rcm],
    by rw [sendMarker_produceCycleStart_lif]; simp, ?_, by simp, by simp, by simp, by simp⟩
  rw [sendMarker_isPending, produceCycleStart_isPending (by decide) (by decide) (by decide), takeTiming_isPending]
  rfl

/-- R85: the marker of a founder's first cycle. -/
theorem ownMarker_foundBus (s : State) : (ownMarker (foundBus s)).number = 0#16 ∧
    (ownMarker (foundBus s)).holder = s.own ∧ (ownMarker (foundBus s)).limit = s.cfg.config.absenceLimit ∧
    (ownMarker (foundBus s)).digest = crc16 (List.replicate 96 0x00#8) ∧
    (ownMarker (foundBus s)).segment = Vector.replicate 12 0x00#8 := by
  refine ⟨?_, ?_, ?_, ?_, ?_⟩
  · simp [ownMarker, State.cycle, foundBus_sync]
  · simp [ownMarker, State.own]
  · simp [ownMarker]
  · rw [ownMarker, Ptu.digestValue, foundBus_ptu, found_digest, Option.getD_some]
  · rw [ownMarker, foundBus_ptu, segmentBytes_found]

/-- Settles O47. -/
theorem takeoverTimerFoundsOrTakesTheTiming : Obligations.TakeoverTimerFoundsOrTakesTheTiming := by
  refine ⟨fun n s hn hs => ?_, fun n c s hn hs hc hw hnum => ?_, fun n s hn hs hc hw => ?_,
    fun s => takeoverTimerExpiry_stopped⟩
  · obtain ⟨t, m, ht, hsync, hptu, hpres, hlim, hdeg, hlif, hm, hmp, hrest⟩ := takeover_founds hn hs
    obtain ⟨hnum, hholder, hlimit, hdigest, hsegment⟩ := ownMarker_foundBus s
    rw [← hm] at hnum hholder hlimit hdigest hsegment
    exact ⟨t, m, ht, hsync, fun k => by rw [hptu]; exact found_table _ k, fun g => by rw [hptu]; exact found_known _ g,
      by rw [hptu, found_digest], hpres, hlim, hdeg, hlif, hnum, hholder, hlimit, hmp, hdigest, hsegment, hrest⟩
  · obtain ⟨t, ht, hsync, hlim, hpres, hlif, hrest⟩ := takeover_takes hn hs hc hw hnum
    have hcycle : (takeTiming s).cycle = c + 1#16 := by simp [State.cycle, takeTiming_sync, hnum, nextNumber]
    refine ⟨t, ownMarker (takeTiming s), ht, hsync, hlim, hpres, hlif, hcycle, by simp [ownMarker, State.own],
      by simp [ownMarker], by simp [ownMarker, takeTiming_rcm], by simp [ownMarker, Ptu.digestValue], fun i => ?_, hrest⟩
    simp [ownMarker, hcycle, segmentBytes, segmentOfCycle]
  · exact ⟨_, takeoverTimerExpiry_withdraws hn hs hc hw, withdrawNow_whole s⟩

end Sys2Proof.Machine

namespace Sys2Proof.Machine

/-! ## Replies to the reading requests (R25, R154, R158, R178, R179, R193) -/

@[simp] theorem halfBytes_length (h : Half) : (halfBytes h).length = 2 := rfl

@[simp] theorem cycleBytes_length (n : Option Half) : (cycleBytes n).length = 3 := by cases n <;> rfl

@[simp] theorem faultCtx_bytes_length (c : FaultCtx) : c.bytes.length = 4 := by cases c <;> rfl

@[simp] theorem firstFaultBytes_length (f : Option FirstFault) : (firstFaultBytes f).length = 9 := by
  cases f <;> simp [firstFaultBytes]

/-- R191: a segment's bit in the byte of the segments-known set. -/
theorem knownByte_bit (v : Vector Bool 8) (g : Fin 8) : (knownByte v).getLsbD (7 - g.val) = v[g] := by
  have hlen : (v.toList.map Bool.toNat).length = 8 := by simp
  have hd : ∀ d ∈ v.toList.map Bool.toNat, d < 2 := by
    intro d hd
    obtain ⟨f, -, rfl⟩ := List.mem_map.mp hd
    exact Bool.toNat_lt f
  have hdigit := packDigits_digit _ hd g.val (by rw [hlen]; exact g.isLt)
  have hplace : (v.toList.map Bool.toNat).length - 1 - g.val = 7 - g.val := by rw [hlen]
  have hbit : (packDigits 2 (v.toList.map Bool.toNat)).testBit (7 - g.val) = v[g] := by
    rw [Nat.testBit_eq_decide_div_mod_eq, ← hplace, hdigit]
    cases hv : v[g] <;> simp [show v[g.val] = _ from hv]
  rw [knownByte, byteOf, BitVec.getLsbD_ofNat, hbit, decide_eq_true (by omega), Bool.true_and]

/-- R25, R193: the reply to READ_TABLE, item by item. -/
theorem tableData_items (p : Ptu) (g : Fin 8) : (tableData p g).length = 17 ∧
    (∀ i : Fin 12, (tableData p g).getD i.val 0#8 = (p.table[12 * g.val + i.val]'(by omega)).byte) ∧
    ((tableData p g).drop 12).take 3 = halfBytes p.digestValue ++ [flagByte p.digest.isSome] ∧
    (tableData p g).getD 15 0#8 = knownByte p.known ∧ (tableData p g).drop 16 = [byteOf p.learnAttempts] := by
  have hsplit : tableData p g = (segmentBytes p.table g).toList ++
      (halfBytes p.digestValue ++ [flagByte p.digest.isSome] ++ [knownByte p.known] ++ [byteOf p.learnAttempts]) := by
    simp [tableData]
  have hlen : (segmentBytes p.table g).toList.length = 12 := by simp
  refine ⟨by simp [tableData], fun i => ?_, ?_, ?_, ?_⟩
  · rw [hsplit, List.getD_append _ _ _ _ (by rw [hlen]; exact i.isLt)]
    simp [segmentBytes]
  · rw [hsplit, List.drop_left' hlen]
    rfl
  · rw [hsplit, List.getD_append_right _ _ _ _ (by rw [hlen]; omega), hlen]
    rfl
  · rw [hsplit, show 16 = 12 + 4 from rfl, ← List.drop_drop, List.drop_left' hlen]
    rfl

/-- R179, R193: the reply to READ_CONFIG, item by item. -/
theorem configData_items (c : Cfg) : (configData c).length = 30 ∧
    (configData c).take 5 = [byteOf c.config.absenceLimit, byteOf c.config.retryTimeout, byteOf c.config.retryLimit,
      byteOf c.config.quota, flagByte c.config.autoJoin] ∧
    ((configData c).drop 5).take 4 =
      halfBytes (c.config.enables.setWidth 16) ++ halfBytes (c.config.mask.setWidth 16) ∧
    (∀ i : Fin 16, (configData c).getD (9 + i.val) 0#8 = c.config.pattern[i].byte) ∧
    (configData c).drop 25 = [finByte c.straps.addr, flagByte c.straps.rate, flagByte c.straps.cfgSrc,
      byteOrFF ConfigSource.byte c.source, byteOrFF FailReason.byte c.failure] := by
  have hsplit : configData c = ([byteOf c.config.absenceLimit, byteOf c.config.retryTimeout,
      byteOf c.config.retryLimit, byteOf c.config.quota, flagByte c.config.autoJoin] ++ eventBytes c.config.enables ++
      halfBytes (c.config.mask.setWidth 16)) ++ (c.config.pattern.toList.map Cls.byte ++
      [finByte c.straps.addr, flagByte c.straps.rate, flagByte c.straps.cfgSrc,
        byteOrFF ConfigSource.byte c.source, byteOrFF FailReason.byte c.failure]) := by
    simp [configData]
  have hlen : (c.config.pattern.toList.map Cls.byte).length = 16 := by simp
  refine ⟨by simp [configData, eventBytes], rfl, rfl, fun i => ?_, List.drop_left' (by simp [eventBytes])⟩
  have hfront : ∀ l : List Byte, l.length = 9 → ∀ r : List Byte, (l ++ r).getD (9 + i.val) 0#8 = r.getD i.val 0#8 := by
    intro l hl r
    rw [List.getD_append_right _ _ _ _ (by omega), hl, Nat.add_sub_cancel_left]
  rw [hsplit, hfront _ rfl, List.getD_append _ _ _ _ (by rw [hlen]; exact i.isLt)]
  simp

/-- Two bytes for each element of a list, one behind the other. -/
theorem flatMap_pair_getD {α : Type} (f g : α → Byte) (l : List α) (i : Nat) (h : i < l.length) :
    (l.flatMap fun a => [f a, g a]).getD (2 * i) 0#8 = f l[i] ∧
      (l.flatMap fun a => [f a, g a]).getD (2 * i + 1) 0#8 = g l[i] := by
  induction l generalizing i with
  | nil => simp at h
  | cons a l ih =>
    cases i with
    | zero => exact ⟨rfl, rfl⟩
    | succ i => exact ih i (by simpa using h)

/-- R154, R193: the reply to READ_FAULTS, item by item. -/
theorem faultData_items (f : Fru) : (faultData f).length = 50 ∧
    (∀ k : Fin 19, (faultData f).getD (2 * k.val) 0#8 = flagByte f.seen[k] ∧
      (faultData f).getD (2 * k.val + 1) 0#8 = byteOf f.counts[k]) ∧
    ((faultData f).drop 38).take 9 = firstFaultBytes f.first ∧
    (faultData f).drop 47 = [byteOf f.highest.rank] ++ halfBytes (f.mask.setWidth 16) := by
  have hlen : ((List.finRange 19).flatMap fun k => [flagByte f.seen[k], byteOf f.counts[k]]).length = 38 := by simp
  have hsplit : faultData f = ((List.finRange 19).flatMap fun k => [flagByte f.seen[k], byteOf f.counts[k]]) ++
      (firstFaultBytes f.first ++ ([byteOf f.highest.rank] ++ halfBytes (f.mask.setWidth 16))) := by
    simp [faultData]
  refine ⟨by simp [faultData], fun k => ?_, ?_, ?_⟩
  · obtain ⟨hseen, hcount⟩ := flatMap_pair_getD (fun k : Fin 19 => flagByte f.seen[k]) (fun k => byteOf f.counts[k])
      (List.finRange 19) k.val (by simp)
    rw [hsplit, List.getD_append _ _ _ _ (by rw [hlen]; omega), List.getD_append _ _ _ _ (by rw [hlen]; omega)]
    exact ⟨by simpa using hseen, by simpa using hcount⟩
  · rw [hsplit, List.drop_left' hlen, List.take_left' (firstFaultBytes_length _)]
  · rw [hsplit, show 47 = 38 + 9 from rfl, ← List.drop_drop, List.drop_left' hlen,
      List.drop_left' (firstFaultBytes_length _)]

/-- Settles O11. -/
theorem readingRequests : Obligations.ReadingRequests := by
  refine ⟨fun b s hr hs => ⟨fun h => ?_, fun h => ?_⟩, fun s hr hs => ?_, fun s hr hs => ?_, fun s hr hs => ?_⟩
  · obtain ⟨hlen, hentries, hdigest, hknown, hlearn⟩ := tableData_items s.ptu ⟨b.toNat, h⟩
    refine ⟨_, hlen, ?_, hentries, ?_, fun g => ?_, hlearn⟩
    · have hrule : readTableRule b s = { state := s, status := .ok, data := tableData s.ptu ⟨b.toNat, h⟩ } := dif_pos h
      exact congrArg _ ((takeRequest_by_rule 0x09#8 [b] (readTableRule b) s hr (.inl hs)).trans (by rw [hrule]))
    · rw [hdigest, Ptu.digestValue]
      cases s.ptu.digest <;> rfl
    · rw [hknown, knownByte_bit]
  · have hrule : readTableRule b s = refuse s .badArg := dif_neg (by omega)
    exact congrArg _ ((takeRequest_by_rule 0x09#8 [b] (readTableRule b) s hr (.inl hs)).trans (by rw [hrule]; rfl))
  · obtain ⟨hlen, hfront, hsets, hpattern, hback⟩ := configData_items s.cfg
    exact ⟨_, hlen, congrArg _ (takeRequest_by_rule 0x14#8 [] _ s hr (.inl hs)), hfront, hsets, hpattern, hback⟩
  · obtain ⟨hlen, hkinds, hfirst, hback⟩ := faultData_items s.fru
    refine ⟨_, hlen, congrArg _ (takeRequest_by_rule 0x0A#8 [] _ s hr (.inl hs)), hkinds, fun hn => ?_, fun f hf => ?_,
      hback⟩
    · rw [hfirst, hn]
      rfl
    · obtain ⟨kind, cycle, state, ctx⟩ := f
      rw [hfirst, hf]
      cases ctx <;> rfl
  · refine ⟨s.fru.clear, ⟨fun k => by simp [Fru.clear, Fru.cleared], rfl, rfl⟩, rfl, ?_⟩
    exact congrArg _ (takeRequest_by_rule 0x0B#8 [] (fun s => accept (s.withFru s.fru.clear)) s hr (.inl hs))

end Sys2Proof.Machine

namespace Sys2Proof.Machine

/-! ## The comparison of a marker in the window (R29, R30, R82) -/

/-- R15, R81 step 1: the station behind the timing of a marker in the window. -/
def inTime (m : Marker) (o : Int) (s : State) : State := s.withSync (windowSync m o s.sync)

@[simp] theorem inTime_state (m : Marker) (o : Int) (s : State) : (inTime m o s).sync.state = s.sync.state := rfl

@[simp] theorem inTime_ptu (m : Marker) (o : Int) (s : State) : (inTime m o s).ptu = s.ptu := rfl

/-- R81: in the window, with the cycle running, a station that is not holder takes its first marker of the cycle. -/
theorem markerReceived_window {b : List Byte} {o : Int} {m : Marker} {s : State} (hm : parseMarker b = some m)
    (ho : m.holder ≠ s.own) (ht : s.sync.state.timed = true) (hh : s.sync.holder = false)
    (hc : s.sync.cond = .running ∨ s.sync.cond = .flywheel) (hd : s.sync.markerDone = false) (hlo : -16 ≤ o)
    (hhi : o ≤ 16) : exec (.markerReceived b o) s = .next (takeMarker m o false s) := by
  rw [markerReceived_some o s hm, handleMarker_running o ho ht hh hc, if_pos ⟨(inWindow_iff o).mpr ⟨hlo, hhi⟩, hd⟩]

/-- R81: what such a marker does is what `takeMarker` does. -/
theorem markerReceived_takes {b : List Byte} {o : Int} {m : Marker} {s : State} {P : State → Prop}
    (hm : parseMarker b = some m) (ho : m.holder ≠ s.own) (ht : s.sync.state.timed = true)
    (hh : s.sync.holder = false) (hc : s.sync.cond = .running ∨ s.sync.cond = .flywheel)
    (hd : s.sync.markerDone = false) (hlo : -16 ≤ o) (hhi : o ≤ 16) (h : ∃ t, takeMarker m o false s = t ∧ P t) :
    ∃ t, exec (.markerReceived b o) s = .next t ∧ P t := by
  obtain ⟨t, ht', hP⟩ := h
  exact ⟨t, by rw [markerReceived_window hm ho ht hh hc hd hlo hhi, ht'], hP⟩

theorem timed_active {st : SyncState} (h : st = .active) : st.timed = true := by rw [h]; rfl

theorem timed_relearn {st : SyncState} (h : st = .relearn) : st.timed = true := by rw [h]; rfl

theorem timed_learner {st : SyncState} (h : st = .learning ∨ st = .relearn) : st.timed = true := by
  rcases h with h | h <;> rw [h] <;> rfl

/-- R82: the station behind the comparison in which it is DIVERGED. -/
def diverged (m : Marker) (o : Int) (s : State) : State := degradeToRelearn .diverged .none (inTime m o s)

theorem markerCompare_diverged {m : Marker} {o : Int} {s : State} (hs : s.sync.state = .active)
    (hd : s.ptu.digestValue ≠ m.digest) : markerCompare m (inTime m o s) = diverged m o s := by
  rw [markerCompare, if_pos (by simpa using hs), if_neg (by simpa using hd)]
  rfl

theorem learner_not_active {s : State} (hs : s.sync.state = .learning ∨ s.sync.state = .relearn) :
    s.sync.state ≠ .active := by
  rcases hs with hs | hs <;> simp [hs]

theorem markerCompare_agreed {m : Marker} {s : State} (hs : s.sync.state = .learning ∨ s.sync.state = .relearn)
    (hf : s.ptu.full = true) (hd : s.ptu.digestValue = m.digest) : markerCompare m s = learningSuccess s := by
  rw [markerCompare, if_neg (learner_not_active hs), if_pos ⟨hs, hf⟩, if_pos hd]

/-- R30: the PTU with one failed attempt more. -/
def countFailure (s : State) : State := s.withPtu { s.ptu with learnAttempts := s.ptu.learnAttempts + 1 }

theorem markerCompare_failed {m : Marker} {s : State} (hs : s.sync.state = .learning ∨ s.sync.state = .relearn)
    (hf : s.ptu.full = true) (hd : s.ptu.digestValue ≠ m.digest) (ha : s.ptu.learnAttempts < 2) :
    markerCompare m s = forgetTable (countFailure s) := by
  rw [markerCompare, if_neg (learner_not_active hs), if_pos ⟨hs, hf⟩, if_neg hd, learningFailure]
  exact if_pos (show s.ptu.learnAttempts + 1 < Config.learnLimit by simp [Config.learnLimit]; omega)

theorem markerCompare_unstable {m : Marker} {s : State} (hs : s.sync.state = .learning ∨ s.sync.state = .relearn)
    (hf : s.ptu.full = true) (hd : s.ptu.digestValue ≠ m.digest) (ha : s.ptu.learnAttempts = 2) :
    markerCompare m s = withdrawNow (recordFault .scheduleUnstable .none (countFailure s)) := by
  have hline : s.sync.state.onLine = true := by rcases hs with hs | hs <;> simp [hs, SyncState.onLine]
  rw [markerCompare, if_neg (learner_not_active hs), if_pos ⟨hs, hf⟩, if_neg hd, learningFailure]
  refine (if_neg ?_).trans (fatal_onLine _ _ hline)
  simp [Config.learnLimit, ha]

/-- R81: at a station that times slots a marker in the window is compared at once. -/
theorem takeMarker_timed {m : Marker} {o : Int} {s u : State} (ht : s.sync.state.timed = true)
    (hu : markerCompare m (inTime m o s) = u) : takeMarker m o false s =
      if u.sync.state = .withdrawn then u else markerSegment m (displacementTest (adoptPresence m u)) := by
  have hlearn : markerLearn (inTime m o s) = inTime m o s := by
    refine markerLearn_timed fun hs => ?_
    rw [show s.sync.state = .listening from hs] at ht
    cases ht
  unfold takeMarker
  dsimp only
  rw [markerTiming_window, show s.withSync (windowSync m o s.sync) = inTime m o s from rfl, hlearn, hu]

/-- R81: a marker in the window, behind a comparison that leaves the station on the line. -/
theorem takeMarker_behind {m : Marker} {o : Int} {s u : State} (ht : s.sync.state.timed = true)
    (hu : markerCompare m (inTime m o s) = u) (hw : u.sync.state ≠ .withdrawn) :
    takeMarker m o false s = markerSegment m (displacementTest (adoptPresence m u)) := by
  rw [takeMarker_timed ht hu, if_neg hw]

/-- R29, R30, R82: `u` is `s` behind the timing and the comparison of a marker in the window that leave the station on the
line: of what the marker's adoption goes on with, SYNC alone has changed. -/
structure Compared (m : Marker) (o : Int) (s u : State) : Prop where
  sync : u.sync = { windowSync m o s.sync with state := u.sync.state }
  lif : u.lif = s.lif
  rcm : u.rcm = s.rcm
  txe : u.txe = { s.txe with conflict := u.txe.conflict, mark := u.txe.mark }
  dlt : u.dlt = s.dlt
  rxe : u.rxe = s.rxe
  cfg : u.cfg = s.cfg
  pending : u.isPending .membership = s.isPending .membership ∧ u.isPending .doneReady = s.isPending .doneReady

theorem compared_inTime (m : Marker) (o : Int) (s : State) : Compared m o s (inTime m o s) :=
  ⟨rfl, rfl, rfl, rfl, rfl, rfl, rfl, rfl, rfl⟩

theorem compared_diverged (m : Marker) (o : Int) {s : State} (hs : s.sync.state = .active)
    (hh : s.sync.holder = false) : Compared m o s (diverged m o s) := by
  have hact : (inTime m o s).sync.state = .active := hs
  have hr := toRelearn_whole (recordFault .diverged .none (inTime m o s)) (by simpa using hact)
  have hrec := recordFault_isPending .diverged .none (inTime m o s)
  rw [diverged, degradeToRelearn, if_pos hact]
  refine ⟨?_, by rw [hr.lif]; simp [inTime], by rw [hr.rcm]; simp [inTime], by rw [hr.txe]; simp [inTime],
    by rw [hr.dlt]; simp [inTime], by rw [hr.rxe]; simp [inTime], by rw [hr.cfg]; simp [inTime], ?_, ?_⟩
  · rw [hr.sync]
    simp [inTime, windowSync, hh]
  · rw [toRelearn_isPending (by decide), hrec]
    rfl
  · rw [toRelearn_isPending (by decide), hrec]
    rfl

theorem learningSuccess_state (s : State) :
    (learningSuccess s).sync = { s.sync with state := if s.sync.state = .learning then .joining else .active } := rfl

theorem learningSuccess_ptu (s : State) : (learningSuccess s).ptu = { s.ptu with learnAttempts := 0 } := by
  simp [learningSuccess]

theorem learningSuccess_isPending (s : State) (e : Event) :
    (learningSuccess s).isPending e = (decide (Event.syncState = e) || s.isPending e) := by
  unfold learningSuccess
  rw [enter_isPending]
  rfl

theorem compared_agreed (m : Marker) (o : Int) (s : State) : Compared m o s (learningSuccess (inTime m o s)) :=
  ⟨rfl, by simp [inTime], by simp [inTime], by simp [inTime], by simp [inTime], by simp [inTime], by simp [inTime],
    learningSuccess_isPending _ _, learningSuccess_isPending _ _⟩

theorem compared_failed (m : Marker) (o : Int) (s : State) :
    Compared m o s (forgetTable (countFailure (inTime m o s))) :=
  ⟨rfl, rfl, rfl, rfl, rfl, rfl, rfl, rfl, rfl⟩

theorem Compared.own {m : Marker} {o : Int} {s u : State} (h : Compared m o s u) : u.own = s.own := by
  rw [State.own, h.cfg]
  rfl

theorem Compared.samePeers {m : Marker} {o : Int} {s u : State} (h : Compared m o s u) : SamePeers s u where
  own := h.own
  presence := by rw [h.rcm]
  degraded := by rw [h.rcm]
  records := by rw [h.rcm]; exact ⟨rfl, rfl⟩
  sequences := by rw [h.txe]
  membership := h.pending.1

theorem Compared.number {m : Marker} {o : Int} {s u : State} (h : Compared m o s u) :
    u.sync.cycleNumber = some m.number := by rw [h.sync]; rfl

theorem Compared.dropped {m : Marker} {o : Int} {s u : State} (h : Compared m o s u) : droppedBy m u = droppedBy m s :=
  droppedBy_congr h.own (by rw [h.rcm])

/-- R47: what the adoption behind the comparison makes of the peers. -/
theorem Compared.peers {m : Marker} {o : Int} {s u : State} (h : Compared m o s u) : PeersBy m s (adoptPresence m u) :=
  (adoptPresence_peers (by simp [State.cycle, h.number])).of_same h.samePeers

theorem Compared.adopted {m : Marker} {o : Int} {s u : State} (h : Compared m o s u)
    (hr : RetryListSound s.dlt.retry) : AdoptedBy m s (adoptPresence m u) := by
  have ha := adoptPresence_adopted (m := m) h.number (by rw [h.dlt]; exact hr)
  have hdrop := h.dropped
  exact {
    peers := h.peers
    sources := fun a => by rw [← h.rxe, ← hdrop]; exact ha.sources a
    acks := by rw [← h.rxe, ← hdrop]; exact ha.acks
    queue := by rw [← h.rxe]; exact ha.queue
    entries := by rw [← h.dlt, ← hdrop]; exact ha.entries
    doneReady := by rw [← h.pending.2, ← h.dlt, ← hdrop]; exact ha.doneReady }

/-- R27: the segment of a marker writes the PTU alone. -/
theorem markerSegment_withPtu (m : Marker) (s : State) : markerSegment m s = s.withPtu (markerSegment m s).ptu := by
  unfold markerSegment
  (repeat' split) <;> rfl

theorem PeersBy.withPtu {m : Marker} {s t : State} (h : PeersBy m s t) (p : Ptu) : PeersBy m s (t.withPtu p) :=
  ⟨h.presence, h.degraded, h.sequences, ⟨h.records.departure, h.records.arrival⟩, h.membership⟩

theorem AdoptedBy.behind_segment {m : Marker} {s t : State} (h : AdoptedBy m s t) :
    AdoptedBy m s (markerSegment m t) := by
  rw [markerSegment_withPtu]
  exact ⟨h.peers.withPtu _, h.sources, h.acks, h.queue, h.entries, h.doneReady⟩

end Sys2Proof.Machine

namespace Sys2Proof.Machine

/-! ## A station that the marker leaves where the comparison has it -/

/-- R47, R81: behind the comparison the marker's presence is adopted and its segment taken. -/
structure Stays (m : Marker) (s u t : State) : Prop where
  sync : t.sync = u.sync
  ptu : t.ptu = (markerSegment m (adoptPresence m u)).ptu
  fru : t.fru = u.fru
  cru : t.cru = u.cru
  syncState : t.isPending .syncState = u.isPending .syncState
  peers : PeersBy m s t
  adopted : RetryListSound s.dlt.retry → AdoptedBy m s t

theorem Compared.stays {m : Marker} {o : Int} {s u : State} (h : Compared m o s u) (ht : s.sync.state.timed = true)
    (hu : markerCompare m (inTime m o s) = u) (hw : u.sync.state ≠ .withdrawn)
    (hp : u.sync.state = .active ∨ u.sync.state = .relearn → m.presence[s.own].isSome = true) :
    Stays m s u (takeMarker m o false s) := by
  have htake : takeMarker m o false s = markerSegment m (adoptPresence m u) := by
    rw [takeMarker_behind ht hu hw, displacementTest_present]
    intro hs
    have hown : (adoptPresence m u).own = s.own := by
      rw [State.own, (adoptPresence_sameLine m u).cfg]
      exact h.own
    simp only [hown, adoptPresence_presence]
    exact hp (by simpa using hs)
  rw [htake]
  refine ⟨by simp, rfl, by simp, by simp, ?_, h.peers.behind_segment, fun hr => (h.adopted hr).behind_segment⟩
  rw [markerSegment_isPending, adoptPresence_isPending_other (by decide) (by decide)]

theorem writeSegment_attempts (p : Ptu) (g : Fin 8) (es : Vector Entry 12) :
    (p.writeSegment g es).learnAttempts = p.learnAttempts := by
  unfold Ptu.writeSegment
  dsimp only
  split <;> rfl

/-- R22, R27, R28: a learner takes the segment of a marker. -/
theorem markerSegment_learns {m : Marker} {s : State} (hs : s.sync.state = .learning ∨ s.sync.state = .relearn) :
    LearnsSegment m s.ptu (markerSegment m s).ptu := by
  by_cases h : ∀ i : Fin 12, (segmentEntry m.segment[i]).isSome = true
  · rw [markerSegment_taken hs h]
    refine ⟨writeSegment_attempts _ _ _, fun _ => ⟨fun g => ?_, fun k => ?_, fun hfull => ?_, fun hlack => ?_⟩, ?_⟩
    · rw [writeSegment_known]
      by_cases hg : m.number.toNat % 8 = g.val
      · simp [segmentOfCycle, hg]
      · simp [segmentOfCycle, hg, Ne.symm hg]
    · have hk : segmentOf k = segmentOfCycle m.number ↔ k.val / 12 = m.number.toNat % 8 := Fin.ext_iff
      rw [writeSegment_table]
      by_cases hseg : k.val / 12 = m.number.toNat % 8
      · have hsome := h ⟨k.val % 12, by omega⟩
        obtain ⟨e, he⟩ := Option.isSome_iff_exists.mp hsome
        rw [if_pos hseg, if_pos (hk.mpr hseg), getElem_tab]
        rw [show segmentEntry m.segment[k.val % 12] = some e from he, he]
        rfl
      · rw [if_neg hseg, if_neg (fun he => hseg (hk.mp he))]
    · rw [writeSegment_digest, if_pos ((full_iff _).mpr hfull)]
      rfl
    · obtain ⟨g, hg⟩ := hlack
      rw [writeSegment_digest, if_neg]
      intro hfull
      rw [full_iff] at hfull
      rw [hfull g] at hg
      cases hg
    · rintro ⟨i, hi⟩
      have hsome := h i
      rw [hi] at hsome
      cases hsome
  · have hn : ∃ i : Fin 12, segmentEntry m.segment[i] = none := by
      obtain ⟨i, hi⟩ := not_forall.mp h
      exact ⟨i, by simpa using hi⟩
    rw [markerSegment_malformed hn]
    exact ⟨rfl, fun hall => absurd hall h, fun _ => rfl⟩

/-- R26, R27: behind a first segment the entries of the others are UNKNOWN. -/
theorem learnsFirst_elsewhere {m : Marker} {p : Ptu} (h : learnsFirst m p) (k : Phase)
    (hk : k.val / 12 ≠ m.number.toNat % 8) : p.table[k] = .unknown := by
  obtain ⟨-, htaken, hmalformed⟩ := h
  by_cases hall : ∀ i : Fin 12, (segmentEntry m.segment[i]).isSome = true
  · have htable := (htaken hall).2 k
    rwa [if_neg hk] at htable
  · obtain ⟨i, hi⟩ := not_forall.mp hall
    exact (hmalformed ⟨i, by simpa using hi⟩).1 k

/-- R26, R27: behind a comparison that has forgotten the table the marker's segment is the first. -/
theorem Stays.learnsFirst {m : Marker} {s u t : State} (h : Stays m s u t)
    (hs : u.sync.state = .learning ∨ u.sync.state = .relearn) (hp : u.ptu = u.ptu.forget) :
    learnsFirst m t.ptu ∧ t.ptu.learnAttempts = u.ptu.learnAttempts := by
  have hfirst := segment_learnsFirst (m := m) (s := adoptPresence m u) (by simpa using hs) (by simpa using hp)
  rw [h.ptu]
  simpa using hfirst

/-- Behind a comparison that ends learning the table stands. -/
theorem Stays.ptu_of_not_learner {m : Marker} {s u t : State} (h : Stays m s u t)
    (hs : u.sync.state ≠ .learning ∧ u.sync.state ≠ .relearn) : t.ptu = u.ptu := by
  rw [h.ptu, markerSegment_elsewhere (by simpa using hs)]
  simp

end Sys2Proof.Machine

namespace Sys2Proof.Machine

/-! ## Displacement (R83) -/

/-- R83: the station whose DISPLACED is on record, behind the adoption of `m`. -/
def displacedRecord (m : Marker) (u : State) : State := recordFault .displaced .none (adoptPresence m u)

/-- R83: the station that DISPLACED takes to the state `st`, before what becomes of its table. -/
def displacedTo (st : SyncState) (w : State) : State := enter st (forgetPeers (leaveActive w))

theorem leaveActive_elsewhere {s : State} (h : s.sync.state ≠ .active) : leaveActive s = s := if_neg h

theorem adoptPresence_absent {m : Marker} {u : State} (hp : m.presence[u.own] = none) :
    (adoptPresence m u).rcm.present (adoptPresence m u).own = false := by
  have hown : (adoptPresence m u).own = u.own := (adoptPresence_sameLine m u).own
  simp only [Rcm.present, hown, adoptPresence_presence]
  simpa using hp

/-- R83, R94: with a withdraw pending displacement withdraws the station. -/
theorem displacementTest_withdraws {m : Marker} {u : State} (hs : u.sync.state = .active ∨ u.sync.state = .relearn)
    (hp : m.presence[u.own] = none) (hw : u.sync.withdrawPending = true) :
    displacementTest (adoptPresence m u) = withdrawNow (displacedRecord m u) := by
  unfold displacementTest
  dsimp only
  rw [if_pos ⟨by simpa using hs, adoptPresence_absent hp⟩, if_pos (by simpa using hw)]
  rfl

/-- R83: displacement of an ACTIVE station. -/
theorem displacementTest_active {m : Marker} {u : State} (hs : u.sync.state = .active) (hp : m.presence[u.own] = none)
    (hw : u.sync.withdrawPending = false) :
    displacementTest (adoptPresence m u) = displacedTo .joining (displacedRecord m u) := by
  unfold displacementTest
  dsimp only
  rw [if_pos ⟨by simp [hs], adoptPresence_absent hp⟩, if_neg (by simp [hw]), if_pos (by simpa using hs)]
  rfl

/-- R83: displacement of a RELEARN station. -/
theorem displacementTest_relearn {m : Marker} {u : State} (hs : u.sync.state = .relearn)
    (hp : m.presence[u.own] = none) (hw : u.sync.withdrawPending = false) : displacementTest (adoptPresence m u) =
      (displacedTo .learning (displacedRecord m u)).withPtu u.ptu.forget := by
  have hstay : leaveActive (displacedRecord m u) = displacedRecord m u :=
    leaveActive_elsewhere (by simp [displacedRecord, hs])
  unfold displacementTest displacedTo
  dsimp only
  rw [if_pos ⟨by simp [hs], adoptPresence_absent hp⟩, if_neg (by simp [hw]), if_neg (by simp [hs]), hstay]
  have hptu : (forgetPeers (displacedRecord m u)).ptu = u.ptu := by simp [displacedRecord]
  rw [← hptu]
  rfl

theorem forgetPeers_rcm (s : State) : (forgetPeers s).rcm = { s.rcm with ownCollisions := 0 } := by
  simp [forgetPeers]

theorem forgetPeers_rxe (s : State) :
    (forgetPeers s).rxe = { s.rxe with lastAcc := Vector.replicate 32 none, acks := [] } := by
  simp [forgetPeers, freshSources]

theorem forgetPeers_dlt (s : State) : (forgetPeers s).dlt = { s.dlt with
    retry := s.dlt.retry.map fun e => { e with closed := true, due := none } } := by
  simp [forgetPeers]

theorem forgetPeers_isPending (s : State) (e : Event) : (forgetPeers s).isPending e = s.isPending e :=
  isPending_congr (by simp) e

/-- R47, R51, R52: the last records stand behind all that leaves them alone. -/
theorem LastRecordsBy.congr {m : Marker} {s t v : State} (h : LastRecordsBy m s t)
    (hdep : v.rcm.lastDeparture = t.rcm.lastDeparture) (harr : v.rcm.lastArrival = t.rcm.lastArrival) :
    LastRecordsBy m s v :=
  ⟨by rw [hdep]; exact h.departure, by rw [harr]; exact h.arrival⟩

/-- R40, R83: what displacement makes of the peers beside the adoption is not in RCM's map nor in TXE's sequences. -/
theorem PeersBy.displaced {m : Marker} {s u : State} (h : PeersBy m s (adoptPresence m u)) (st : SyncState) :
    PeersBy m s (displacedTo st (displacedRecord m u)) := by
  have hrcm : (displacedTo st (displacedRecord m u)).rcm = { (adoptPresence m u).rcm with ownCollisions := 0 } := by
    simp [displacedTo, forgetPeers_rcm, displacedRecord]
  have hseq : (displacedTo st (displacedRecord m u)).txe.nextSeq = (adoptPresence m u).txe.nextSeq := by
    simp only [displacedTo, enter_frame, forgetPeers_frame, leaveActive_txe]
    split <;> simp [displacedRecord]
  have hpend : (displacedTo st (displacedRecord m u)).isPending .membership =
      (adoptPresence m u).isPending .membership := by
    rw [displacedTo, enter_isPending, forgetPeers_isPending, leaveActive_isPending (by decide), displacedRecord,
      recordFault_isPending]
    rfl
  refine ⟨?_, ?_, ?_, h.records.congr ?_ ?_, by rw [hpend]; exact h.membership⟩
  · rw [hrcm]; exact h.presence
  · rw [hrcm]; exact h.degraded
  · rw [hseq]; exact h.sequences
  · rw [hrcm]
  · rw [hrcm]

theorem DisplacedBy.withPtu {m : Marker} {s t : State} (h : DisplacedBy m s t) (p : Ptu) :
    DisplacedBy m s (t.withPtu p) :=
  ⟨h.peers.withPtu p, h.collisions, h.sources, h.entries, h.completions, h.queues, h.active, h.fault, h.sync, h.event⟩

theorem DisplacedBy.behind_segment {m : Marker} {s t : State} (h : DisplacedBy m s t) :
    DisplacedBy m s (markerSegment m t) := by
  rw [markerSegment_withPtu]
  exact h.withPtu _

/-- R62, R66, R112: what leaving ACTIVE makes of CRU, the conflict count and the cycle mark has been made of them. -/
def LeftActive (s t : State) : Prop := t.cru = cruOnLeavingActive s ∧ t.txe.conflict = 0 ∧ t.txe.mark = .none

/-- R83, R122, R129, R140: a station that displacement takes to another state of learning or joining. -/
theorem Compared.displaced {m : Marker} {o : Int} {s u : State} (h : Compared m o s u)
    (hr : RetryListSound s.dlt.retry) (hh : s.sync.holder = false) (st : SyncState)
    (hleft : s.sync.state = .active → LeftActive s (leaveActive (displacedRecord m u))) :
    DisplacedBy m s (displacedTo st (displacedRecord m u)) := by
  have ha := h.adopted hr
  have hrxe : (displacedTo st (displacedRecord m u)).rxe =
      { (adoptPresence m u).rxe with lastAcc := Vector.replicate 32 none, acks := [] } := by
    simp [displacedTo, forgetPeers_rxe, displacedRecord]
  have hdlt : (displacedTo st (displacedRecord m u)).dlt = { (adoptPresence m u).dlt with
      retry := (adoptPresence m u).dlt.retry.map fun e => { e with closed := true, due := none } } := by
    simp [displacedTo, forgetPeers_dlt, displacedRecord]
  have htxe : (displacedTo st (displacedRecord m u)).txe = (leaveActive (displacedRecord m u)).txe := by
    simp [displacedTo]
  have hqueues : ∀ c, (displacedTo st (displacedRecord m u)).txe.queue c = s.txe.queue c := by
    intro c
    have hrec : (displacedRecord m u).txe = (adoptPresence m u).txe := by simp [displacedRecord]
    have hadopt : (displacedRecord m u).txe.queue c = s.txe.queue c := by
      rw [hrec, adoptPresence_txe, h.txe]
      cases c <;> simp [Txe.queue]
    rw [htxe, leaveActive_txe, ← hadopt]
    split <;> cases c <;> rfl
  have hsync : (leaveActive (displacedRecord m u)).sync = u.sync := by
    have hhold : u.sync.holder = false := by rw [h.sync]; exact hh
    have hrec : (displacedRecord m u).sync = u.sync := by simp [displacedRecord]
    rw [leaveActive_sync, hrec, ← hhold]
    split <;> rfl
  exact {
    peers := h.peers.displaced st
    collisions := by simp [displacedTo, forgetPeers_rcm]
    sources := by rw [hrxe]; exact ⟨fun a => by simp, rfl, by simpa using ha.queue⟩
    entries := by rw [hdlt, ha.entries]
    completions := by rw [hdlt, ha.entries]
    queues := ⟨hqueues .c0, hqueues .c1, hqueues .c2, hqueues .c3⟩
    active := fun hs => by
      obtain ⟨hcru, hmarks⟩ := hleft hs
      exact ⟨by simpa [displacedTo] using hcru, by rw [htxe]; exact hmarks⟩
    fault := by simp [displacedTo, displacedRecord]
    sync := by
      have hto : (displacedTo st (displacedRecord m u)).sync = { u.sync with state := st } := by
        simp [displacedTo, hsync]
      rw [hto, h.sync]
      rfl
    event := by simp [displacedTo] }

/-- R83, R94, R95: a station that displacement withdraws. -/
theorem Compared.withdrawn {m : Marker} {o : Int} {s u : State} (h : Compared m o s u) :
    WithdrawnOnDisplacement m u.ptu.learnAttempts (cruOnLeavingActive u) s (withdrawNow (displacedRecord m u)) where
  sync := by
    refine ⟨by rw [withdrawNow_sync], by rw [withdrawNow_sync]; rfl, ?_⟩
    unfold withdrawNow
    rw [enter_isPending]
    rfl
  fault := by simp [displacedRecord]
  lif := by simp
  ptu := by simp [displacedRecord, Ptu.forget, Ptu.reset]
  cru := by
    rw [withdrawNow_cru, leaveActive_cru_eq]
    exact cruOnLeavingActive_congr (by simp [displacedRecord]) (by simp [displacedRecord])
  peers := ⟨by simp [Rcm.clear], h.peers.records.congr (by simp [Rcm.clear, displacedRecord])
    (by simp [Rcm.clear, displacedRecord])⟩
  sources := by
    refine ⟨by simp, by simp, ?_⟩
    rw [withdrawNow_rxe, ← h.rxe, ← (adoptPresence_rxe m u).2.2]
    simp [displacedRecord]
  queues := by simp [Txe.queued]

/-- R81, R83: a marker in the window that displaces a station ACTIVE behind the comparison takes it to JOINING. -/
theorem takeMarker_displaces_active {m : Marker} {o : Int} {s u : State} (h : Compared m o s u)
    (ht : s.sync.state.timed = true) (hu : markerCompare m (inTime m o s) = u) (hs : u.sync.state = .active)
    (hp : m.presence[s.own] = none) (hw : s.sync.withdrawPending = false) :
    takeMarker m o false s = displacedTo .joining (displacedRecord m u) := by
  have hpend : u.sync.withdrawPending = false := by rw [h.sync]; exact hw
  rw [takeMarker_behind ht hu (by simp [hs]), displacementTest_active hs (by simpa only [h.own] using hp) hpend,
    markerSegment_elsewhere (by simp [displacedTo])]

/-- R81, R83: a marker in the window that displaces a station in RELEARN behind the comparison takes it to LEARNING. -/
theorem takeMarker_displaces_relearn {m : Marker} {o : Int} {s u : State} (h : Compared m o s u)
    (ht : s.sync.state.timed = true) (hu : markerCompare m (inTime m o s) = u) (hs : u.sync.state = .relearn)
    (hp : m.presence[s.own] = none) (hw : s.sync.withdrawPending = false) : takeMarker m o false s =
      markerSegment m ((displacedTo .learning (displacedRecord m u)).withPtu u.ptu.forget) := by
  have hpend : u.sync.withdrawPending = false := by rw [h.sync]; exact hw
  rw [takeMarker_behind ht hu (by simp [hs]), displacementTest_relearn hs (by simpa only [h.own] using hp) hpend]

/-- R81, R83, R94: a marker in the window that displaces a station with a withdraw pending. -/
theorem takeMarker_displaces_withdrawing {m : Marker} {o : Int} {s u : State} (h : Compared m o s u)
    (ht : s.sync.state.timed = true) (hu : markerCompare m (inTime m o s) = u)
    (hs : u.sync.state = .active ∨ u.sync.state = .relearn) (hp : m.presence[s.own] = none)
    (hw : s.sync.withdrawPending = true) : takeMarker m o false s = withdrawNow (displacedRecord m u) := by
  have hpend : u.sync.withdrawPending = true := by rw [h.sync]; exact hw
  rw [takeMarker_behind ht hu (by rcases hs with hs | hs <;> simp [hs]),
    displacementTest_withdraws hs (by simpa only [h.own] using hp) hpend,
    markerSegment_elsewhere (by simp [withdrawNow_sync])]

end Sys2Proof.Machine

namespace Sys2Proof.Machine

/-! ## What each comparison leads to -/

theorem record_first_kept {f : Fru} {r : FirstFault} (h : f.first = some r) (k : FaultKind) (n : Option Half)
    (st : SyncState) (ctx : FaultCtx) : (f.record k n st ctx).first = some r := by
  unfold Fru.record
  dsimp only
  split <;> simp [h]

theorem record_first_empty {f : Fru} {k : FaultKind} (h : f.first = none) (hm : masked f.mask k = false)
    (n : Option Half) (st : SyncState) (ctx : FaultCtx) :
    (f.record k n st ctx).first = some { kind := k, cycle := n, state := st, ctx := ctx } := by
  unfold Fru.record
  simp [h, hm]

theorem diverged_fru {m : Marker} {o : Int} {s : State} (hs : s.sync.state = .active) : (diverged m o s).fru =
    s.fru.record .diverged (some m.number) .active .none := by
  have hact : (inTime m o s).sync.state = .active := hs
  rw [diverged, degradeToRelearn, if_pos hact, (toRelearn_whole _ (by simpa using hact)).fru, recordFault_fru, hact]
  rfl

/-- R82: what DIVERGED makes of the parts of an ACTIVE station behind the timing. -/
theorem diverged_parts {m : Marker} {o : Int} {s : State} (hs : s.sync.state = .active) :
    (diverged m o s).sync.state = .relearn ∧ (diverged m o s).ptu = s.ptu.forget ∧
      (diverged m o s).cru = cruOnLeavingActive s ∧
      (diverged m o s).txe = { s.txe with conflict := 0, mark := .none } ∧
      (diverged m o s).fru.seen[FaultKind.diverged.code] = true ∧ (diverged m o s).isPending .syncState = true := by
  obtain ⟨hstate, hptu, hcru, htxe, hseen, hsync, -⟩ := diverged_whole (u := inTime m o s) hs
  exact ⟨hstate, hptu, hcru.trans (cruOnLeavingActive_congr rfl rfl), htxe, hseen, hsync⟩

/-- R82, R83: DIVERGED has the station leave ACTIVE, and DISPLACED behind it finds it left. -/
theorem diverged_leftActive {m : Marker} {o : Int} {s : State} (hs : s.sync.state = .active) :
    LeftActive s (leaveActive (displacedRecord m (diverged m o s))) := by
  obtain ⟨hstate, -, hcru, htxe, -⟩ := diverged_parts (m := m) (o := o) hs
  have hstay : (displacedRecord m (diverged m o s)).sync.state ≠ .active := by simp [displacedRecord, hstate]
  have hreccru : (displacedRecord m (diverged m o s)).cru = (diverged m o s).cru := by simp [displacedRecord]
  have hrectxe : (displacedRecord m (diverged m o s)).txe = (adoptPresence m (diverged m o s)).txe := by
    simp [displacedRecord]
  rw [leaveActive_elsewhere hstay, LeftActive, hreccru, hrectxe, adoptPresence_txe, hcru, htxe]
  exact ⟨rfl, rfl, rfl⟩

/-- R83: an ACTIVE station that agrees with the marker leaves ACTIVE by DISPLACED. -/
theorem inTime_leftActive {m : Marker} {o : Int} {s : State} (hs : s.sync.state = .active) :
    LeftActive s (leaveActive (displacedRecord m (inTime m o s))) := by
  have hstate : (displacedRecord m (inTime m o s)).sync.state = .active := by
    simpa [displacedRecord] using (show (inTime m o s).sync.state = .active from hs)
  have hcru : (displacedRecord m (inTime m o s)).cru = (inTime m o s).cru := by simp [displacedRecord]
  refine ⟨?_, ?_⟩
  · rw [leaveActive_cru_eq]
    exact cruOnLeavingActive_congr (hstate.trans hs.symm) hcru
  · rw [leaveActive_txe, if_pos hstate]
    exact ⟨rfl, rfl⟩

theorem not_full {p : Ptu} (h : ∃ g : Fin 8, p.known[g] = false) : p.full = false := by
  obtain ⟨g, hg⟩ := h
  rw [Bool.eq_false_iff, Ne, full_iff]
  intro hall
  rw [hall g] at hg
  cases hg

theorem digestValue_ne {p : Ptu} {d : Half} (h : p.digest ≠ some d) (hs : p.digest.isSome = true) :
    p.digestValue ≠ d := by
  obtain ⟨v, hv⟩ := Option.isSome_iff_exists.mp hs
  rw [Ptu.digestValue, hv]
  rintro rfl
  exact h hv

theorem digestValue_of_some {p : Ptu} {d : Half} (h : p.digest = some d) : p.digestValue = d := by
  rw [Ptu.digestValue, h, Option.getD_some]

/-- R27, R81: a learner that lacks a segment compares nothing. -/
theorem markerCompare_learning {m : Marker} {o : Int} {s : State}
    (hs : s.sync.state = .learning ∨ s.sync.state = .relearn) (hg : ∃ g : Fin 8, s.ptu.known[g] = false) :
    markerCompare m (inTime m o s) = inTime m o s :=
  markerCompare_undecided (fun ha => absurd ha (learner_not_active hs)) fun _ => not_full hg

/-- R81, R82: an ACTIVE station that agrees with the marker stands. -/
theorem markerCompare_agreeing {m : Marker} {o : Int} {s : State} (hs : s.sync.state = .active)
    (hd : s.ptu.digestValue = m.digest) : markerCompare m (inTime m o s) = inTime m o s :=
  markerCompare_undecided (fun _ => hd) fun hl => absurd hs (learner_not_active hl)

/-- R26, R83: a table forgotten at displacement learns the marker's segment first. -/
theorem displaced_learnsFirst (m : Marker) (w : State) (p : Ptu) :
    learnsFirst m (markerSegment m ((displacedTo .learning w).withPtu p.forget)).ptu ∧
      (markerSegment m ((displacedTo .learning w).withPtu p.forget)).ptu.learnAttempts = p.learnAttempts := by
  obtain ⟨hfirst, hattempts⟩ := segment_learnsFirst (m := m) (s := (displacedTo .learning w).withPtu p.forget)
    (.inl (by simp [displacedTo])) (forget_forget p).symm
  exact ⟨hfirst, hattempts⟩

/-- R157: of SYNC, an entry to WITHDRAWN sees the state, the holder flag and what is left. -/
theorem WithdrawnFrom.of_withSync {s t : State} {y : Sync} (h : WithdrawnFrom (s.withSync y) t)
    (hs : y.state = s.sync.state) (hh : y.holder = s.sync.holder) (hl : leftNow (s.withSync y) = leftNow s) :
    WithdrawnFrom s t := by
  have hcru : cruOnLeavingActive (s.withSync y) = cruOnLeavingActive s := cruOnLeavingActive_congr hs rfl
  have hevents : eventsOnLeavingActive (s.withSync y) = eventsOnLeavingActive s := by
    unfold eventsOnLeavingActive
    rw [State.withSync_sync, State.withSync_cru, hs, hh]
  exact { h with
    sync := by rw [h.sync, hl]
    cru := by rw [h.cru, hcru]
    hp := by rw [h.hp, hevents]; rfl }

theorem recordFault_withSync (k : FaultKind) (ctx : FaultCtx) {s : State} {y : Sync} (hs : y.state = s.sync.state)
    (hn : y.cycleNumber = s.sync.cycleNumber) :
    recordFault k ctx (s.withSync y) = (recordFault k ctx s).withSync y := by
  simp only [recordFault, State.withSync_fru, State.withSync_sync, hs, hn]
  split <;> rfl

/-- R30: a LEARNING or RELEARN station at its third failure, as far as the withdrawal sees it. -/
def thirdFailure (m : Marker) (s : State) : State := { s with
  sync := { s.sync with
    cond := .running, cycleNumber := some m.number, holderAddr := some m.holder, lost := 0, markerDone := true }
  ptu := { s.ptu with learnAttempts := 3 } }

/-- R30, R157: the third failure withdraws the station. -/
theorem unstable_withdrawn {m : Marker} {o : Int} {s : State} (ha : s.ptu.learnAttempts = 2) :
    WithdrawnFrom (recordFault .scheduleUnstable .none (thirdFailure m s))
      (withdrawNow (recordFault .scheduleUnstable .none (countFailure (inTime m o s)))) := by
  have hcount : countFailure (inTime m o s) = (thirdFailure m s).withSync (windowSync m o s.sync) := by
    simp [countFailure, inTime, thirdFailure, State.withPtu, State.withSync, ha]
  have hrec := recordFault_withSync .scheduleUnstable .none (s := thirdFailure m s) (y := windowSync m o s.sync) rfl rfl
  rw [hcount, hrec]
  refine (withdrawNow_whole _).of_withSync ?_ ?_ ?_
  · simp [thirdFailure, windowSync]
  · simp [thirdFailure, windowSync]
  · simp [leftNow, State.slotTiming, thirdFailure, windowSync]

end Sys2Proof.Machine

namespace Sys2Proof.Machine

/-! ## The digest decides, case by case (R29, R30, R82, R83) -/

/-- R82: an ACTIVE station whose digest is another one, and that stays, relearns. -/
theorem digest_diverges {m : Marker} {o : Int} {s : State} (hs : s.sync.state = .active)
    (hh : s.sync.holder = false) (hd : s.ptu.digestValue ≠ m.digest) (hp : m.presence[s.own].isSome = true) :
    ∃ t, takeMarker m o false s = t ∧ t.sync.state = .relearn ∧ t.sync.cycleNumber = some m.number ∧
      t.cru = cruOnLeavingActive s ∧ t.fru.seen[FaultKind.diverged.code] = true ∧ learnsFirst m t.ptu ∧
      t.isPending .syncState = true ∧ PeersBy m s t ∧ (RetryListSound s.dlt.retry → AdoptedBy m s t) := by
  obtain ⟨hstate, hptu, hcru, -, hseen, hsync⟩ := diverged_parts (m := m) (o := o) hs
  have hcmp := compared_diverged m o hs hh
  have hstay := hcmp.stays (timed_active hs) (markerCompare_diverged hs hd) (by simp [hstate])
    fun _ => hp
  refine ⟨_, rfl, by rw [hstay.sync, hstate], by rw [hstay.sync, hcmp.number], by rw [hstay.cru, hcru],
    by rw [hstay.fru]; exact hseen, (hstay.learnsFirst (.inr hstate) (by rw [hptu]; rfl)).1,
    by rw [hstay.syncState, hsync], hstay.peers, hstay.adopted⟩

/-- A learner that the marker does not displace is LEARNING, or its address is present. -/
theorem learner_present {m : Marker} {s : State}
    (hs : s.sync.state = .learning ∨ (s.sync.state = .relearn ∧ m.presence[s.own].isSome = true))
    (hu : s.sync.state = .active ∨ s.sync.state = .relearn) : m.presence[s.own].isSome = true := by
  rcases hs with hs | ⟨-, hp⟩
  · simp [hs] at hu
  · exact hp

/-- R27: a learner that lacks a segment takes the one of the marker. -/
theorem segment_arrives {m : Marker} {o : Int} {s : State}
    (hs : s.sync.state = .learning ∨ (s.sync.state = .relearn ∧ m.presence[s.own].isSome = true))
    (hg : ∃ g : Fin 8, s.ptu.known[g] = false) : ∃ t, takeMarker m o false s = t ∧
      t.sync.state = s.sync.state ∧ t.sync.cycleNumber = some m.number ∧ LearnsSegment m s.ptu t.ptu ∧
      PeersBy m s t ∧ t.fru = s.fru ∧ t.cru = s.cru ∧ t.isPending .syncState = s.isPending .syncState := by
  have hlearn : s.sync.state = .learning ∨ s.sync.state = .relearn := hs.imp_right And.left
  have hstay := (compared_inTime m o s).stays (timed_learner hlearn)
    (markerCompare_learning hlearn hg)
    (by rcases hlearn with h | h <;> simp [h]) (learner_present hs)
  refine ⟨_, rfl, by rw [hstay.sync]; rfl, by rw [hstay.sync]; rfl, ?_, hstay.peers, hstay.fru, hstay.cru,
    hstay.syncState⟩
  have hsegment := markerSegment_learns (m := m) (s := adoptPresence m (inTime m o s)) (by simpa using hlearn)
  rw [hstay.ptu]
  simpa using hsegment

end Sys2Proof.Machine

namespace Sys2Proof.Machine

/-- R29: a learner that the marker agrees with ends learning. -/
theorem learning_agrees {m : Marker} {o : Int} {s : State}
    (hs : s.sync.state = .learning ∨ (s.sync.state = .relearn ∧ m.presence[s.own].isSome = true))
    (hf : s.ptu.full = true) (hd : s.ptu.digestValue = m.digest) : ∃ t, takeMarker m o false s = t ∧
      t.sync.state = (if s.sync.state = .learning then .joining else .active) ∧
      t.ptu = { s.ptu with learnAttempts := 0 } ∧ t.fru = s.fru ∧ t.isPending .syncState = true ∧ PeersBy m s t ∧
      (RetryListSound s.dlt.retry → AdoptedBy m s t) := by
  have hlearn : s.sync.state = .learning ∨ s.sync.state = .relearn := hs.imp_right And.left
  have hstate : (learningSuccess (inTime m o s)).sync.state =
      if s.sync.state = .learning then .joining else .active := rfl
  obtain ⟨hnot, hon⟩ : ((learningSuccess (inTime m o s)).sync.state ≠ .learning ∧
      (learningSuccess (inTime m o s)).sync.state ≠ .relearn) ∧
      (learningSuccess (inTime m o s)).sync.state ≠ .withdrawn := by
    rw [hstate]; split <;> decide
  have hstay := (compared_agreed m o s).stays (timed_learner hlearn)
    (markerCompare_agreed hlearn hf hd) hon fun hu => hs.elim (fun h => by simp [hstate, h] at hu) And.right
  refine ⟨_, rfl, by rw [hstay.sync, hstate], ?_, by rw [hstay.fru]; simp [inTime], ?_, hstay.peers, hstay.adopted⟩
  · rw [hstay.ptu_of_not_learner hnot, learningSuccess_ptu, inTime_ptu]
  · rw [hstay.syncState, learningSuccess_isPending]
    rfl

/-- R30: a learner that the marker does not agree with begins again. -/
theorem learning_fails {m : Marker} {o : Int} {s : State}
    (hs : s.sync.state = .learning ∨ (s.sync.state = .relearn ∧ m.presence[s.own].isSome = true))
    (hf : s.ptu.full = true) (hd : s.ptu.digestValue ≠ m.digest) (ha : s.ptu.learnAttempts < 2) :
    ∃ t, takeMarker m o false s = t ∧ t.sync.state = s.sync.state ∧
      t.ptu.learnAttempts = s.ptu.learnAttempts + 1 ∧ learnsFirst m t.ptu ∧ t.fru = s.fru ∧ PeersBy m s t ∧
      (RetryListSound s.dlt.retry → AdoptedBy m s t) := by
  have hlearn : s.sync.state = .learning ∨ s.sync.state = .relearn := hs.imp_right And.left
  have hstate : (forgetTable (countFailure (inTime m o s))).sync.state = s.sync.state := rfl
  have hstay := (compared_failed m o s).stays (timed_learner hlearn)
    (markerCompare_failed hlearn hf hd ha) (by rw [hstate]; rcases hlearn with h | h <;> simp [h])
    (learner_present hs)
  obtain ⟨hfirst, hattempts⟩ := hstay.learnsFirst hlearn rfl
  exact ⟨_, rfl, by rw [hstay.sync, hstate], hattempts, hfirst, hstay.fru, hstay.peers, hstay.adopted⟩

/-- R30: the third failure withdraws a learner, and the marker's presence is not adopted. -/
theorem learning_unstable {m : Marker} {o : Int} {s : State}
    (hs : s.sync.state = .learning ∨ s.sync.state = .relearn) (hf : s.ptu.full = true)
    (hd : s.ptu.digestValue ≠ m.digest) (ha : s.ptu.learnAttempts = 2) :
    ∃ t, takeMarker m o false s = t ∧ t.sync.state = .withdrawn ∧
      t.fru.seen[FaultKind.scheduleUnstable.code] = true ∧ t.ptu.learnAttempts = 3 ∧
      WithdrawnFrom (recordFault .scheduleUnstable .none (thirdFailure m s)) t := by
  have hfrom := unstable_withdrawn (m := m) (o := o) ha
  have htake := takeMarker_timed (o := o) (timed_learner hs)
    (markerCompare_unstable (s := inTime m o s) hs hf hd ha)
  rw [if_pos (by rw [withdrawNow_sync])] at htake
  refine ⟨_, htake, by rw [withdrawNow_sync], ?_, by rw [hfrom.ptu]; simp [thirdFailure], hfrom⟩
  rw [hfrom.fru, recordFault_fru]
  exact record_seen_self ..

/-- R83: displacement of a station that is ACTIVE behind the comparison. -/
theorem Compared.displaced_active {m : Marker} {o : Int} {s u : State} (h : Compared m o s u)
    (ht : s.sync.state.timed = true) (hu : markerCompare m (inTime m o s) = u) (hs : u.sync.state = .active)
    (hp : m.presence[s.own] = none) (hh : s.sync.holder = false) (hr : RetryListSound s.dlt.retry)
    (hw : s.sync.withdrawPending = false)
    (hleft : s.sync.state = .active → LeftActive s (leaveActive (displacedRecord m u))) :
    ∃ t, takeMarker m o false s = t ∧ t.sync.state = .joining ∧ DisplacedBy m s t ∧ t.ptu = u.ptu :=
  ⟨_, takeMarker_displaces_active h ht hu hs hp hw, by simp [displacedTo], h.displaced hr hh _ hleft,
    by simp [displacedTo, displacedRecord]⟩

/-- R83: displacement of a station that is in RELEARN behind the comparison. -/
theorem Compared.displaced_relearn {m : Marker} {o : Int} {s u : State} (h : Compared m o s u)
    (ht : s.sync.state.timed = true) (hu : markerCompare m (inTime m o s) = u) (hs : u.sync.state = .relearn)
    (hp : m.presence[s.own] = none) (hh : s.sync.holder = false) (hr : RetryListSound s.dlt.retry)
    (hw : s.sync.withdrawPending = false)
    (hleft : s.sync.state = .active → LeftActive s (leaveActive (displacedRecord m u))) :
    ∃ t, takeMarker m o false s = t ∧ t.sync.state = .learning ∧ DisplacedBy m s t ∧ learnsFirst m t.ptu ∧
      t.ptu.learnAttempts = u.ptu.learnAttempts ∧ t.fru = (displacedRecord m u).fru := by
  obtain ⟨hfirst, hattempts⟩ := displaced_learnsFirst m (displacedRecord m u) u.ptu
  exact ⟨_, takeMarker_displaces_relearn h ht hu hs hp hw, by simp [displacedTo],
    ((h.displaced hr hh .learning hleft).withPtu _).behind_segment, hfirst, hattempts, by simp [displacedTo]⟩

/-- R83, R94: displacement of a station with a withdraw pending, ACTIVE or in RELEARN behind the comparison. -/
theorem Compared.displaced_withdrawing {m : Marker} {o : Int} {s u : State} {n : Nat} {c : Cru}
    (h : Compared m o s u) (ht : s.sync.state.timed = true) (hu : markerCompare m (inTime m o s) = u)
    (hs : u.sync.state = .active ∨ u.sync.state = .relearn) (hp : m.presence[s.own] = none)
    (hw : s.sync.withdrawPending = true) (hn : u.ptu.learnAttempts = n) (hc : cruOnLeavingActive u = c) :
    WithdrawnOnDisplacement m n c s (takeMarker m o false s) := by
  rw [takeMarker_displaces_withdrawing h ht hu hs hp hw, ← hn, ← hc]
  exact h.withdrawn

/-- R82, R83, R94: so it is whether or not an ACTIVE station agrees with the marker. -/
theorem active_withdrawing {m : Marker} {o : Int} {s : State} (hs : s.sync.state = .active)
    (hh : s.sync.holder = false) (hp : m.presence[s.own] = none) (hw : s.sync.withdrawPending = true) :
    WithdrawnOnDisplacement m s.ptu.learnAttempts (cruOnLeavingActive s) s (takeMarker m o false s) := by
  by_cases hdig : s.ptu.digestValue = m.digest
  · exact (compared_inTime m o s).displaced_withdrawing (timed_active hs) (markerCompare_agreeing hs hdig) (.inl hs) hp
      hw rfl (cruOnLeavingActive_congr rfl rfl)
  · obtain ⟨hrelearn, hptu, hcru, -⟩ := diverged_parts (m := m) (o := o) hs
    refine (compared_diverged m o hs hh).displaced_withdrawing (timed_active hs) (markerCompare_diverged hs hdig)
      (.inr hrelearn) hp hw (by rw [hptu]; rfl) ?_
    rw [← hcru, cruOnLeavingActive, if_neg (by simp [hrelearn])]

theorem displacedRecord_fru (m : Marker) (u : State) :
    (displacedRecord m u).fru = u.fru.record .displaced u.sync.cycleNumber u.sync.state .none := by
  simp [displacedRecord]

/-- R82, R83: DIVERGED and then DISPLACED on record. -/
theorem diverged_displaced_fru {m : Marker} {o : Int} {s : State} (hs : s.sync.state = .active) :
    (displacedRecord m (diverged m o s)).fru.seen[FaultKind.diverged.code] = true ∧
      (s.fru.first = none → masked s.fru.mask .diverged = false → (displacedRecord m (diverged m o s)).fru.first =
        some { kind := .diverged, cycle := some m.number, state := .active, ctx := .none }) := by
  rw [displacedRecord_fru, diverged_fru hs]
  exact ⟨record_seen_mono _ _ _ _ _ _ (record_seen_self _ _ _ _ _),
    fun hn hm => record_first_kept (record_first_empty hn hm _ _ _) _ _ _ _⟩

/-- R82, R83: DIVERGED and then displacement, by one marker. -/
theorem active_displaced_diverged {m : Marker} {o : Int} {s : State} (hs : s.sync.state = .active)
    (hh : s.sync.holder = false) (hd : s.ptu.digestValue ≠ m.digest) (hp : m.presence[s.own] = none)
    (hr : RetryListSound s.dlt.retry) (hw : s.sync.withdrawPending = false) :
    ∃ t, takeMarker m o false s = t ∧ t.sync.state = .learning ∧ DisplacedBy m s t ∧ learnsFirst m t.ptu ∧
      t.ptu.learnAttempts = s.ptu.learnAttempts ∧ t.fru.seen[FaultKind.diverged.code] = true ∧
      (s.fru.first = none → masked s.fru.mask .diverged = false → t.fru.first =
        some { kind := .diverged, cycle := some m.number, state := .active, ctx := .none }) := by
  obtain ⟨hrelearn, hptu, -⟩ := diverged_parts (m := m) (o := o) hs
  obtain ⟨t, ht, hstate, hby, hfirst, hattempts, hfru⟩ := (compared_diverged m o hs hh).displaced_relearn
    (timed_active hs) (markerCompare_diverged hs hd) hrelearn hp hh hr hw diverged_leftActive
  rw [hptu] at hattempts
  refine ⟨t, ht, hstate, hby, hfirst, hattempts, ?_⟩
  rw [hfru]
  exact diverged_displaced_fru hs

/-- Settles O22: in each case the comparison is one of four, and what follows it a stay, a displacement or a withdrawal. -/
theorem theDigestDecides : Obligations.TheDigestDecides := by
  have hshut : ∀ {p : Prop} {s : State}, s.sync.state = .relearn → s.sync.state = .active → p := fun hr ha => by
    rw [hr] at ha; cases ha
  refine ⟨fun b o m s hm ho hs hh hc hd hlo hhi hdig hp => ?_, fun b o m s hm ho hs hh hc hd hlo hhi hg => ?_,
    fun b o m s hm ho hs hh hc hd hlo hhi hg => ⟨fun hdig => ?_, fun hdig hsome ha => ?_⟩,
    fun b o m s hm ho hs hh hc hd hlo hhi hg hsome hdig ha => ?_,
    fun b o m s hm ho hp hh hc hd hlo hhi hr hw => ⟨fun hs hdig => ?_, fun hs hdig => ?_, fun hs hg => ?_,
      fun hs hg hdig => ?_, fun hs hg hsome hdig ha => ?_⟩,
    fun b o m s hm ho hp hh hc hd hlo hhi hw => ⟨fun hs => ?_, fun hs hg hdig => ?_, fun hs hg hsome hdig ha => ?_⟩⟩
  · refine markerReceived_takes hm ho (timed_active hs) hh hc hd hlo hhi ?_
    obtain ⟨t, ht, hstate, hnum, hcru, hseen, hfirst, hsync, hpeers, hadopted⟩ := digest_diverges (o := o) hs hh hdig hp
    refine ⟨t, ht, hstate, hnum, hcru, hseen, hfirst.1, learnsFirst_elsewhere hfirst, fun k hk hall => ?_, hsync, hpeers,
      hadopted⟩
    have htable := (hfirst.2.1 hall).2 k
    rwa [if_pos hk] at htable
  · exact markerReceived_takes hm ho (timed_learner (hs.imp_right And.left)) hh hc hd hlo hhi (segment_arrives hs hg)
  · exact markerReceived_takes hm ho (timed_learner (hs.imp_right And.left)) hh hc hd hlo hhi
      (learning_agrees hs ((full_iff _).mpr hg) (digestValue_of_some hdig))
  · exact markerReceived_takes hm ho (timed_learner (hs.imp_right And.left)) hh hc hd hlo hhi
      (learning_fails hs ((full_iff _).mpr hg) (digestValue_ne hdig hsome) ha)
  · exact markerReceived_takes hm ho (timed_learner hs) hh hc hd hlo hhi
      (learning_unstable hs ((full_iff _).mpr hg) (digestValue_ne hdig hsome) ha)
  · exact markerReceived_takes hm ho (timed_active hs) hh hc hd hlo hhi ((compared_inTime m o s).displaced_active
      (timed_active hs) (markerCompare_agreeing hs hdig) hs hp hh hr hw inTime_leftActive)
  · exact markerReceived_takes hm ho (timed_active hs) hh hc hd hlo hhi (active_displaced_diverged hs hh hdig hp hr hw)
  · refine markerReceived_takes hm ho (timed_relearn hs) hh hc hd hlo hhi ?_
    obtain ⟨t, ht, hstate, hby, hfirst, hattempts, -⟩ := (compared_inTime m o s).displaced_relearn (timed_relearn hs)
      (markerCompare_learning (.inr hs) hg) hs hp hh hr hw (hshut hs)
    exact ⟨t, ht, hstate, hby, hfirst, hattempts⟩
  · refine markerReceived_takes hm ho (timed_relearn hs) hh hc hd hlo hhi ?_
    have htake := (compared_agreed m o s).displaced_active (timed_relearn hs)
      (markerCompare_agreed (s := inTime m o s) (.inr hs) ((full_iff _).mpr hg) (digestValue_of_some hdig))
      (by simp [learningSuccess_state, hs]) hp hh hr hw (hshut hs)
    rwa [learningSuccess_ptu] at htake
  · refine markerReceived_takes hm ho (timed_relearn hs) hh hc hd hlo hhi ?_
    obtain ⟨t, ht, hstate, hby, hfirst, hattempts, -⟩ := (compared_failed m o s).displaced_relearn (timed_relearn hs)
      (markerCompare_failed (s := inTime m o s) (.inr hs) ((full_iff _).mpr hg) (digestValue_ne hdig hsome) ha)
      hs hp hh hr hw (hshut hs)
    exact ⟨t, ht, hstate, hby, hfirst, hattempts⟩
  · rcases hs with hs | ⟨hs, hg⟩
    · exact ⟨_, markerReceived_window hm ho (timed_active hs) hh hc hd hlo hhi, active_withdrawing hs hh hp hw⟩
    · exact ⟨_, markerReceived_window hm ho (timed_relearn hs) hh hc hd hlo hhi,
        (compared_inTime m o s).displaced_withdrawing (timed_relearn hs) (markerCompare_learning (.inr hs) hg) (.inr hs)
          hp hw rfl (cruOnLeavingActive_congr rfl rfl)⟩
  · have hactive : (learningSuccess (inTime m o s)).sync.state = .active := by simp [learningSuccess_state, hs]
    refine ⟨_, markerReceived_window hm ho (timed_relearn hs) hh hc hd hlo hhi,
      (compared_agreed m o s).displaced_withdrawing (timed_relearn hs)
        (markerCompare_agreed (s := inTime m o s) (.inr hs) ((full_iff _).mpr hg) (digestValue_of_some hdig))
        (.inl hactive) hp hw (by rw [learningSuccess_ptu]) (cruOnLeavingActive_congr hactive ?_)⟩
    simp [learningSuccess, inTime]
  · refine ⟨_, markerReceived_window hm ho (timed_relearn hs) hh hc hd hlo hhi,
      (compared_failed m o s).displaced_withdrawing (timed_relearn hs)
        (markerCompare_failed (s := inTime m o s) (.inr hs) ((full_iff _).mpr hg) (digestValue_ne hdig hsome) ha)
        (.inr hs) hp hw rfl ?_⟩
    exact if_neg (show ¬ s.sync.state = .active by simp [hs])

end Sys2Proof.Machine

namespace Sys2Proof.Machine

/-! ## The presence map stays sound, operation by operation (R49, R53, R54) -/

/-- R49, R54, R165: the configuration in force and the presence map are in their ranges. -/
structure MembershipSound (s : State) : Prop where
  config : ConfigurationSound s.cfg.config
  rcm : PresenceSound s.rcm

/-- `PresenceSound` speaks of the map, the degraded flags and the limit alone. -/
theorem PresenceSound.congr {r q : Rcm} (h : PresenceSound r) (hp : q.presence = r.presence)
    (hd : q.degraded = r.degraded) (hl : q.absenceLimit = r.absenceLimit) : PresenceSound q := by
  constructor
  · rw [hd, hp]; exact h.degraded
  · rw [hp]; exact h.counts
  · rw [hl]; exact h.limit

/-- R54: a map without addresses. -/
theorem PresenceSound.of_empty {r : Rcm} (hp : r.presence = Vector.replicate 32 none)
    (hd : r.degraded = Vector.replicate 32 false) (hl : 2 ≤ r.absenceLimit ∧ r.absenceLimit ≤ 7) :
    PresenceSound r := by
  constructor
  · simp [hd]
  · simp [hp]
  · exact hl

/-- R49: a present address's count. -/
theorem PresenceSound.count {r : Rcm} (h : PresenceSound r) (a : Addr) {n : Nat} (hn : n ≤ 7) :
    PresenceSound { r with presence := r.presence.set a (some n) } where
  degraded b hb := by
    have hbefore := h.degraded b hb
    by_cases hab : a.val = b.val <;> simp_all
  counts b k hb := by
    by_cases hab : a.val = b.val
    · simp [hab] at hb
      omega
    · exact h.counts b k (by simpa [Vector.getElem_set, hab] using hb)
  limit := h.limit

/-- R52: an arrival, with its degraded flag. -/
theorem PresenceSound.arrived {r : Rcm} (h : PresenceSound r) (a : Addr) (d : Bool) :
    PresenceSound { r with presence := r.presence.set a (some 0), degraded := r.degraded.set a d } where
  degraded b hb := by
    by_cases hab : a.val = b.val
    · simp [hab]
    · have hbefore := h.degraded b (by simpa [Vector.getElem_set, hab] using hb)
      simpa [Vector.getElem_set, hab] using hbefore
  counts := (h.count a (Nat.zero_le 7)).counts
  limit := h.limit

/-- R51: a departure. -/
theorem PresenceSound.departed {r : Rcm} (h : PresenceSound r) (a : Addr) :
    PresenceSound { r with presence := r.presence.set a none, degraded := r.degraded.set a false } where
  degraded b hb := by
    by_cases hab : a.val = b.val
    · simp [hab] at hb
    · have hbefore := h.degraded b (by simpa [Vector.getElem_set, hab] using hb)
      simpa [Vector.getElem_set, hab] using hbefore
  counts b k hb := by
    by_cases hab : a.val = b.val
    · simp [hab] at hb
    · exact h.counts b k (by simpa [Vector.getElem_set, hab] using hb)
  limit := h.limit

/-- R53: the flags of present addresses follow their roll words. -/
theorem PresenceSound.degradedUpdated {r : Rcm} (h : PresenceSound r) : PresenceSound (updateDegraded r) where
  degraded a ha := by
    simp only [updateDegraded, getElem_fin_tab] at ha
    split at ha
    · exact h.degraded a ha
    · split at ha
      · assumption
      · exact h.degraded a ha
  counts := h.counts
  limit := h.limit

theorem MembershipSound.congr {s t : State} (h : MembershipSound s) (hp : t.rcm.presence = s.rcm.presence)
    (hd : t.rcm.degraded = s.rcm.degraded) (hl : t.rcm.absenceLimit = s.rcm.absenceLimit) (hc : t.cfg = s.cfg) :
    MembershipSound t := ⟨by rw [hc]; exact h.config, h.rcm.congr hp hd hl⟩

theorem MembershipSound.same {s t : State} (h : MembershipSound s) (hr : t.rcm = s.rcm) (hc : t.cfg = s.cfg) :
    MembershipSound t := h.congr (by rw [hr]) (by rw [hr]) (by rw [hr]) hc

theorem MembershipSound.withRcm {s : State} (h : MembershipSound s) {r : Rcm} (hr : PresenceSound r) :
    MembershipSound (s.withRcm r) := ⟨h.config, hr⟩

/-- R54: a station that forgets who is present keeps the configured limit. -/
theorem MembershipSound.cleared {s t : State} (h : MembershipSound s)
    (hr : t.rcm = s.rcm.clear s.cfg.config.absenceLimit) (hc : t.cfg = s.cfg) : MembershipSound t :=
  ⟨by rw [hc]; exact h.config, by rw [hr]; exact .of_empty rfl rfl h.config.absenceLimit⟩

theorem membershipSound_recordFault {s : State} (h : MembershipSound s) (k : FaultKind) (ctx : FaultCtx) :
    MembershipSound (recordFault k ctx s) := h.same (by simp) (by simp)

theorem membershipSound_withdrawNow {s : State} (h : MembershipSound s) : MembershipSound (withdrawNow s) :=
  h.cleared (by simp) (by simp)

theorem membershipSound_fatal {s : State} (h : MembershipSound s) (k : FaultKind) (ctx : FaultCtx) :
    MembershipSound (fatal k ctx s) := by
  have hfault := membershipSound_recordFault h k ctx
  unfold fatal
  dsimp only
  split
  · exact membershipSound_withdrawNow hfault
  · exact hfault

theorem membershipSound_enterListening {s : State} (h : MembershipSound s) : MembershipSound (enterListening s) :=
  h.cleared (by simp) (by simp)

theorem membershipSound_suspend {s : State} (h : MembershipSound s) : MembershipSound (suspend s) :=
  h.congr (by simp) (by simp) (by simp) (by simp)

/-! ## Markers (R81) -/

/-- R187: the counts and the limit of a marker are in their ranges. -/
structure MarkerInRange (m : Marker) : Prop where
  counts : ∀ (a : Addr) (n : Nat), m.presence[a] = some n → n ≤ 7
  limit : 2 ≤ m.limit ∧ m.limit ≤ 7

/-- R5, R187: an intact marker carries counts of 3 bits and a limit in its range. -/
theorem parseMarker_inRange {b : List Byte} {m : Marker} (h : parseMarker b = some m) :
    MarkerInRange m := by
  unfold parseMarker at h
  split at h
  · split at h
    · cases h
    · split at h
      · rename_i hlimit
        obtain rfl := Option.some.inj h
        refine ⟨fun a n hn => ?_, hlimit⟩
        simp only [markerPresence, getElem_fin_tab] at hn
        split at hn
        · obtain rfl := Option.some.inj hn
          omega
        · cases hn
      · cases h
  · cases h

/-- R47: adoption takes map, counts and limit of the marker, and no degraded flag of an absent address. -/
theorem membershipSound_adoptPresence {s : State} (h : MembershipSound s) {m : Marker} (hm : MarkerInRange m) :
    MembershipSound (adoptPresence m s) := by
  refine ⟨by rw [(adoptPresence_sameLine m s).cfg]; exact h.config, ?_⟩
  rw [adoptPresence_eq]
  refine ⟨fun a ha => ?_, hm.counts, hm.limit⟩
  simp only [State.withRcm_rcm, getElem_fin_tab, Bool.and_eq_true] at ha
  exact ha.2

theorem membershipSound_markerTiming {s : State} (h : MembershipSound s) (m : Marker) (o : Int) (restart : Bool) :
    MembershipSound (markerTiming m o restart s) := by
  cases restart with
  | true => exact h.congr (by rw [markerTiming_rcm]) (by rw [markerTiming_rcm]) (by rw [markerTiming_rcm]) (by simp)
  | false => exact h.same rfl rfl

theorem membershipSound_learningFailure {s : State} (h : MembershipSound s) : MembershipSound (learningFailure s) := by
  have hcounted : MembershipSound (s.withPtu { s.ptu with learnAttempts := s.ptu.learnAttempts + 1 }) := h.same rfl rfl
  unfold learningFailure
  dsimp only
  split
  · exact hcounted.same (by simp) (by simp)
  · exact membershipSound_fatal hcounted _ _

theorem membershipSound_markerCompare {s : State} (h : MembershipSound s) (m : Marker) :
    MembershipSound (markerCompare m s) := by
  unfold markerCompare
  (repeat' split)
  · exact h
  · exact h.same (by simp) (by simp)
  · exact h.same (by simp) (by simp)
  · exact membershipSound_learningFailure h
  · exact h

theorem membershipSound_displacementTest {s : State} (h : MembershipSound s) :
    MembershipSound (displacementTest s) := by
  have hfault := membershipSound_recordFault h .displaced .none
  have hpeers : ∀ {u}, MembershipSound u → MembershipSound (forgetPeers u) := fun hu => hu.congr rfl rfl rfl rfl
  unfold displacementTest
  dsimp only
  (repeat' split)
  · exact membershipSound_withdrawNow hfault
  · exact (hpeers (u := leaveActive (recordFault .displaced .none s)) (hfault.same (by simp) (by simp))).same rfl rfl
  · exact (hpeers hfault).same rfl rfl
  · exact h

theorem membershipSound_takeMarker {s : State} (h : MembershipSound s) {m : Marker} (hm : MarkerInRange m)
    (o : Int) (restart : Bool) : MembershipSound (takeMarker m o restart s) := by
  have hlearn : MembershipSound (markerLearn (markerTiming m o restart s)) :=
    (membershipSound_markerTiming h m o restart).same (by simp) (by simp)
  have hcmp := membershipSound_markerCompare hlearn m
  unfold takeMarker
  dsimp only
  split
  · exact hcmp
  · exact (membershipSound_displacementTest (membershipSound_adoptPresence hcmp hm)).same (by simp) (by simp)

theorem membershipSound_handleMarker {s : State} (h : MembershipSound s) {m : Marker} (hm : MarkerInRange m)
    (o : Int) : MembershipSound (handleMarker m o s) := by
  unfold handleMarker
  (repeat' split)
  · exact h
  · exact membershipSound_fatal h _ _
  · exact membershipSound_takeMarker h hm _ _
  · exact membershipSound_takeMarker (h.same (by simp) (by simp)) hm _ _
  · exact h
  · exact membershipSound_takeMarker h hm _ _
  · exact membershipSound_takeMarker h hm _ _
  · exact h

theorem membershipSound_takeMarkerBytes {s : State} (h : MembershipSound s) (o : Int) (g : Bool) (b : List Byte) :
    MembershipSound (takeMarkerBytes o g b s) := by
  unfold takeMarkerBytes
  split
  · exact h
  · rename_i hb
    (repeat' split)
    · exact membershipSound_recordFault h _ _
    · exact h
    · exact membershipSound_handleMarker h (parseMarker_inRange hb) o

theorem membershipSound_markerSlotEnd {s t : State} (h : MembershipSound s) (g : Bool)
    (ht : exec (.markerSlotEnd g) s = .next t) : MembershipSound t := by
  have hlost : ∀ {u}, MembershipSound u → MembershipSound (markerLost u) := by
    intro u hu
    unfold markerLost
    dsimp only
    split
    · exact hu.same (by simp) (by simp)
    · exact membershipSound_suspend (hu.same (by simp) (by simp))
  obtain rfl := next_inj ht
  dsimp only
  (repeat' split)
  · exact membershipSound_recordFault h _ _
  · exact h
  · exact hlost (h.same rfl rfl)
  · exact h.same rfl rfl

/-- R11, R86. -/
theorem membershipSound_ownMarkerReadBack {s t : State} (h : MembershipSound s) (r : Reception)
    (ht : exec (.ownMarkerReadBack r) s = .next t) : MembershipSound t := by
  obtain rfl := next_inj ht
  split
  · dsimp only
    (repeat' split)
    · exact h.same rfl rfl
    · exact h.same (by simp) (by simp)
    · exact membershipSound_suspend (h.same (by simp) (by simp))
  · exact h

end Sys2Proof.Machine

namespace Sys2Proof.Machine

/-! ## Roll words and data frames -/

/-- R43 to R45: what an accepted roll word makes of RCM. -/
theorem acceptRollWord_rcm (k : Addr) (w : RollWord) (s : State) : (acceptRollWord k w s).rcm = { s.rcm with
    record := s.rcm.record.set k (some w)
    tally := if w.relearning = false ∧ w.leave = false ∧ s.ptu.digest ≠ none ∧ s.ptu.digest ≠ some w.digest
      then s.rcm.tally + 1 else s.rcm.tally } := by
  have hacks := fun (l : List Byte) (u : State) =>
    And.intro (foldl_keeps State.rcm (takeAck k) (fun _ _ => by simp) l u)
      (foldl_keeps State.ptu (takeAck k) (fun _ _ => by simp) l u)
  have hdiffers : (!w.relearning && !w.leave && s.ptu.digest.isSome && s.ptu.digest != some w.digest) = true ↔
      (w.relearning = false ∧ w.leave = false ∧ s.ptu.digest ≠ none ∧ s.ptu.digest ≠ some w.digest) := by
    simp [and_assoc, Option.isSome_iff_ne_none]
  unfold acceptRollWord
  simp only [hacks, State.withRcm_ptu, hdiffers]
  split <;> simp [hacks]

theorem membershipSound_checkRollWord {s : State} (h : MembershipSound s) (k : Addr) (w : RollWord) :
    MembershipSound (checkRollWord k w s) := by
  unfold checkRollWord
  (repeat' split)
  · exact membershipSound_recordFault h _ _
  · exact membershipSound_fatal h _ _
  · exact membershipSound_recordFault h _ _
  · exact membershipSound_recordFault h _ _
  · exact h.congr (by rw [acceptRollWord_rcm]) (by rw [acceptRollWord_rcm]) (by rw [acceptRollWord_rcm]) (by simp)

theorem membershipSound_takeRollBytes {s : State} (h : MembershipSound s) (k : Addr) (g : Bool) (b : List Byte) :
    MembershipSound (takeRollBytes k g b s) := by
  have hhad : MembershipSound (rollHad k s) := h.same rfl rfl
  unfold takeRollBytes
  (repeat' split)
  · exact membershipSound_recordFault h _ _
  · exact h.same (by simp) (by simp)
  · exact h
  · exact membershipSound_recordFault hhad _ _
  · exact membershipSound_checkRollWord hhad _ _
  · exact h

theorem membershipSound_takeDataBytes {s : State} (h : MembershipSound s) (k : Phase) (g : Bool) (b : List Byte) :
    MembershipSound (takeDataBytes k g b s) := by
  unfold takeDataBytes
  (repeat' split) <;> exact h.same (by simp) (by simp)

theorem membershipSound_rollSlotDamaged {s t : State} (h : MembershipSound s) (k : Addr) (g : Bool)
    (ht : exec (.rollSlotDamaged k g) s = .next t) : MembershipSound t := by
  obtain rfl := next_inj ht
  dsimp only
  (repeat' split) <;> exact h.same (by simp) (by simp)

theorem membershipSound_dataPhaseDamaged {s t : State} (h : MembershipSound s) (k : Phase) (g : Bool)
    (ht : exec (.dataPhaseDamaged k g) s = .next t) : MembershipSound t := by
  obtain rfl := next_inj ht
  dsimp only
  (repeat' split) <;> exact h.same (by simp) (by simp)

/-- R11, R39. -/
theorem membershipSound_ownRollReadBack {s t : State} (h : MembershipSound s) (r : Reception)
    (ht : exec (.ownRollReadBack r) s = .next t) : MembershipSound t := by
  have hcut : MembershipSound (rollHad s.own (cutTransmission s)) := h.same rfl rfl
  have hcollision : ∀ {u}, MembershipSound u → MembershipSound (rollCollision u) := by
    intro u hu
    have hcounted : MembershipSound (u.withRcm { u.rcm with ownCollisions := u.rcm.ownCollisions + 1 }) :=
      hu.congr rfl rfl rfl rfl
    unfold rollCollision
    dsimp only
    split
    · exact hcounted
    · exact membershipSound_fatal hcounted _ _
  obtain rfl := next_inj ht
  split
  · dsimp only
    (repeat' split)
    · exact hcut
    · exact hcut.congr rfl rfl rfl rfl
    · exact membershipSound_fatal hcut _ _
    · exact hcollision hcut
  · exact h

/-- R11, R111, R112: the read-back of a data frame touches neither RCM nor CFG. -/
theorem membershipSound_ownDataReadBack {s t : State} (h : MembershipSound s) (r : Reception)
    (ht : exec (.ownDataReadBack r) s = .next t) : MembershipSound t := by
  obtain rfl := next_inj ht
  split
  · dsimp only
    (repeat' split) <;> exact h.same (by simp) (by simp)
  · exact h

/-! ## Cycle events and timers -/

/-- R14, R85, R89. -/
theorem membershipSound_cycleStart {s t : State} (h : MembershipSound s) (ht : exec .cycleStart s = .next t) :
    MembershipSound t := by
  obtain rfl := next_inj ht
  dsimp only
  (repeat' split)
  · exact membershipSound_suspend (h.same (by simp) (by simp))
  · exact h.congr (by simp) (by simp) (by simp) (by simp)
  · exact h.congr (by simp) (by simp) (by simp) (by simp)
  · exact h

/-- R35: the own roll slot touches neither RCM nor CFG. -/
theorem membershipSound_ownRollSlot {s t : State} (h : MembershipSound s) (ht : exec .ownRollSlot s = .next t) :
    MembershipSound t := by
  obtain rfl := next_inj ht
  (repeat' split) <;> exact h.same rfl rfl

theorem membershipSound_departAtClose {s : State} (h : MembershipSound s) (a : Addr) (why : DepartReason) :
    MembershipSound (departAtClose a why s) := by
  have hrcm := h.rcm.departed a
  refine ⟨by simpa using h.config, ?_⟩
  unfold departAtClose
  dsimp only
  split <;> exact hrcm.congr (by simp [noteDeparture, removePresent]) (by simp [noteDeparture, removePresent])
    (by simp [noteDeparture, removePresent])

theorem membershipSound_arrive {s : State} (h : MembershipSound s) (a : Addr) (d : Bool) :
    MembershipSound (arrive a d s) := by
  refine ⟨by simpa using h.config, ?_⟩
  rw [arrive_rcm]
  exact (h.rcm.arrived a d).congr rfl rfl rfl

/-- R50. -/
theorem membershipSound_decideOwn {s : State} (h : MembershipSound s) : MembershipSound (decideOwn s) := by
  unfold decideOwn
  (repeat' split)
  · exact h
  · exact membershipSound_arrive (membershipSound_departAtClose h _ _) _ _
  · exact membershipSound_arrive h _ _
  · exact h
  · exact h.withRcm (h.rcm.count _ (Nat.zero_le 7))
  · exact h

/-- R49: a count that goes up stays below the absence limit. -/
theorem membershipSound_decidePeer {s : State} (h : MembershipSound s) (a : Addr) :
    MembershipSound (decidePeer a s) := by
  unfold decidePeer
  (repeat' split)
  · exact membershipSound_departAtClose h _ _
  · have hlimit := h.rcm.limit
    exact h.withRcm (h.rcm.count a (by omega))
  · exact membershipSound_departAtClose h _ _
  · exact membershipSound_arrive (membershipSound_departAtClose h _ _) _ _
  · exact h.withRcm (h.rcm.count a (Nat.zero_le 7))
  · exact membershipSound_arrive h _ _
  · exact h
  · exact h

theorem membershipSound_decideMember (s : State) (a : Addr) (h : MembershipSound s) :
    MembershipSound (decideMember s a) := by
  unfold decideMember
  split
  · exact membershipSound_decideOwn h
  · exact membershipSound_decidePeer h a

/-- R69: stage 1. -/
theorem membershipSound_membershipStage {s : State} (h : MembershipSound s) : MembershipSound (membershipStage s) := by
  have hfold := foldl_holds membershipSound_decideMember (List.finRange 32)
    (s.withRcm { s.rcm with disagreeing := s.rcm.tally, tally := 0 }) (h.congr rfl rfl rfl rfl)
  exact hfold.withRcm hfold.rcm.degradedUpdated

/-- R70 to R74: behind stage 1 a close leaves RCM alone. -/
theorem close_rcm (s : State) : (close s).rcm = (membershipStage s).rcm := by
  unfold close
  dsimp only
  split <;> simp

theorem membershipSound_close {s : State} (h : MembershipSound s) : MembershipSound (close s) :=
  (membershipSound_membershipStage h).same (close_rcm s) (by simp)

/-- R90, R92, R94. -/
theorem membershipSound_listenTimerExpiry {s t : State} (h : MembershipSound s)
    (ht : exec .listenTimerExpiry s = .next t) : MembershipSound t := by
  obtain rfl := next_inj ht
  (repeat' split)
  · exact h.same rfl rfl
  · exact membershipSound_withdrawNow h
  · exact membershipSound_enterListening (h.same rfl rfl)
  · exact h
  · exact h

/-- R54, R92: a founder has its own address alone present. -/
theorem membershipSound_foundBus {s : State} (h : MembershipSound s) : MembershipSound (foundBus s) := by
  have hempty : PresenceSound (s.rcm.clear s.cfg.config.absenceLimit) := .of_empty rfl rfl h.config.absenceLimit
  exact ⟨h.config, hempty.count s.own (Nat.zero_le 7)⟩

/-- R54, R91: a station that takes the timing puts its configured limit in force. -/
theorem membershipSound_takeTiming {s : State} (h : MembershipSound s) : MembershipSound (takeTiming s) :=
  ⟨h.config, h.rcm.degraded, h.rcm.counts, h.config.absenceLimit⟩

/-- R91, R92. -/
theorem membershipSound_takeoverTimerExpiry {s t : State} (h : MembershipSound s)
    (ht : exec .takeoverTimerExpiry s = .next t) : MembershipSound t := by
  have hstart : ∀ {u}, MembershipSound u → MembershipSound (sendMarker (produceCycleStart u)) :=
    fun hu => hu.congr (by simp) (by simp) (by simp) (by simp)
  obtain rfl := next_inj ht
  (repeat' split)
  · exact hstart (membershipSound_foundBus h)
  · exact membershipSound_withdrawNow h
  · exact hstart (membershipSound_takeTiming h)
  · exact h
  · exact h

theorem membershipSound_lineFaultTimerExpiry {s t : State} (h : MembershipSound s) (g : Bool)
    (ht : exec (.lineFaultTimerExpiry g) s = .next t) : MembershipSound t := by
  obtain rfl := next_inj ht
  (repeat' split)
  · exact membershipSound_recordFault h _ _
  · exact h
  · exact membershipSound_fatal (s := s.withLif { s.lif with lineFaultTimer := .stopped }) (h.same rfl rfl) _ _
  · exact h

end Sys2Proof.Machine

namespace Sys2Proof.Machine

/-! ## Resets, START and the host port -/

/-- Of CFG only the configuration in force counts. -/
theorem MembershipSound.sameConfig {s t : State} (h : MembershipSound s) (hr : t.rcm = s.rcm)
    (hc : t.cfg.config = s.cfg.config) : MembershipSound t := ⟨by rw [hc]; exact h.config, by rw [hr]; exact h.rcm⟩

theorem configurationSound_defaults : ConfigurationSound Configuration.defaults := by
  constructor <;> decide

/-- R163, R165: a record that passes the checks holds a configuration in its ranges. -/
theorem configurationSound_of_record {v : Vector Byte 24} {c : Configuration} (h : validateRecord v = .ok c) :
    ConfigurationSound c := by
  unfold validateRecord at h
  split at h
  · cases h
  split at h
  · cases h
  split at h
  · cases h
  rename_i hrange
  split at h
  · cases h
  obtain rfl := Except.ok.inj h
  simp only [recordInRange, Bool.not_eq_false, Bool.and_eq_true, decide_eq_true_eq] at hrange
  constructor <;> simp only [recordFields] <;> tauto

theorem presenceSound_reset : PresenceSound Rcm.reset := .of_empty rfl rfl (by decide)

/-- R54, R168: a reset. -/
theorem membershipSound_resetTo (f : Fru) (st : StartStep) (c : Bool) (s : State) :
    MembershipSound (resetTo f st c s) :=
  ⟨configurationSound_defaults, presenceSound_reset⟩

/-- R164 to R167: START ends with a configuration in its ranges. -/
theorem membershipSound_finishStart {s : State} (h : MembershipSound s) {c : Configuration} (hc : ConfigurationSound c)
    (src : ConfigSource) (why : Option FailReason) : MembershipSound (finishStart c src why s) := by
  have hblocks : MembershipSound
      (initialiseBlocks (s.withCfg { s.cfg with config := c, source := some src, failure := why })) :=
    ⟨hc, h.rcm.degraded, h.rcm.counts, hc.absenceLimit⟩
  have hleave : ∀ {u}, MembershipSound u → MembershipSound (leaveStart u) := by
    intro u hu
    unfold leaveStart
    dsimp only
    split
    · refine membershipSound_enterListening ?_
      exact hu.sameConfig rfl rfl
    · exact hu.sameConfig rfl rfl
  unfold finishStart
  dsimp only
  apply hleave
  split
  · exact membershipSound_recordFault hblocks _ _
  · exact hblocks

theorem membershipSound_attemptFailed {s : State} (h : MembershipSound s) (why : FailReason) :
    MembershipSound (attemptFailed why s) := by
  unfold attemptFailed
  split
  · exact h.sameConfig rfl rfl
  · exact membershipSound_finishStart h configurationSound_defaults _ _

theorem membershipSound_beginAttempt {s : State} (h : MembershipSound s) (n : Nat) :
    MembershipSound (beginAttempt n s) := by
  unfold beginAttempt
  dsimp only
  split
  · exact h.sameConfig rfl rfl
  · refine membershipSound_attemptFailed ?_ _
    exact h.sameConfig rfl rfl

theorem membershipSound_start {s t : State} (h : MembershipSound s) (p : Straps) (n : Nat)
    (ht : exec (.start p n) s = .next t) : MembershipSound t := by
  have hstraps : MembershipSound (s.withCfg { s.cfg with straps := p }) := h.sameConfig rfl rfl
  obtain rfl := next_inj ht
  dsimp only
  (repeat' split)
  · exact membershipSound_beginAttempt hstraps n
  · exact membershipSound_finishStart hstraps configurationSound_defaults _ _
  · exact h

theorem membershipSound_readAttemptEnd {s t : State} (h : MembershipSound s) (r : ReadAttempt)
    (ht : exec (.readAttemptEnd r) s = .next t) : MembershipSound t := by
  obtain rfl := next_inj ht
  have hbus : ∀ l, MembershipSound (onBus l s) := fun _ => h.sameConfig rfl rfl
  dsimp only
  (repeat' split)
  · rename_i hrecord
    exact membershipSound_finishStart (hbus _) (configurationSound_of_record hrecord) _ _
  · exact membershipSound_finishStart (hbus _) configurationSound_defaults _ _
  · exact membershipSound_attemptFailed (hbus _) _
  · exact h

theorem membershipSound_transactionEnd {s t : State} (h : MembershipSound s) (n : Nat)
    (ht : exec (.transactionEnd n) s = .next t) : MembershipSound t := by
  obtain rfl := next_inj ht
  (repeat' split)
  · exact h
  · exact membershipSound_resetTo _ _ _ s
  · exact membershipSound_recordFault (s := portIdle s) (h.same rfl rfl) _ _
  · exact h.same rfl rfl

/-- R172: a request keeps the map sound where its rule does. -/
theorem membershipSound_takeRequest {s : State} (h : MembershipSound s) (code : Byte) (ok : Bool) (args : List Byte)
    {rule : State → Result} (hr : MembershipSound (rule s).state) :
    MembershipSound (takeRequest code ok args rule s) := by
  rcases takeRequest_cases code ok args rule s with he | ⟨st, he⟩ | ⟨-, he⟩ <;> rw [he]
  · exact h
  · exact h.same rfl rfl
  · exact hr.same rfl rfl

theorem membershipSound_join {s t : State} (h : MembershipSound s) (args : List Byte)
    (ht : exec (.join args) s = .next t) : MembershipSound t := by
  obtain rfl := next_inj ht
  refine membershipSound_takeRequest h _ _ _ ?_
  split
  · exact membershipSound_enterListening (h.same rfl rfl)
  · exact h

theorem membershipSound_withdraw {s t : State} (h : MembershipSound s) (args : List Byte)
    (ht : exec (.withdraw args) s = .next t) : MembershipSound t := by
  obtain rfl := next_inj ht
  refine membershipSound_takeRequest h _ _ _ ?_
  unfold withdrawRule
  split
  case h_1 | h_2 => exact h.same rfl rfl
  case h_4 | h_5 => exact membershipSound_withdrawNow h
  all_goals exact h

/-- A command of the host port that reaches neither the line nor the sync state keeps every reading of the state that
tells nothing of HP, CRU, TXE, DLT, RXE and FRU. -/
theorem exec_portOnly_keeps {β : Type} (p : State → β) (hp : ∀ s v, p (State.withHp s v) = p s)
    (hcru : ∀ s v, p (State.withCru s v) = p s) (htxe : ∀ s v, p (State.withTxe s v) = p s)
    (hdlt : ∀ s v, p (State.withDlt s v) = p s) (hrxe : ∀ s v, p (State.withRxe s v) = p s)
    (hfru : ∀ s v, p (State.withFru s v) = p s) {i : Instr} {s t : State} (hi : portOnly i = true)
    (ht : exec i s = .next t) : p t = p s := by
  cases i with
  | transactionBegin _ | badRequest _ _ | popRxCommit | popDoneCommit =>
    obtain rfl := next_inj ht
    (repeat' split) <;> simp [answer, replyDone, freeHead, hp, hrxe]
    all_goals (split <;> simp [hdlt, htxe])
  | status _ | readFaults _ | readEvents _ | readConfig _ =>
    obtain rfl := next_inj ht
    exact takeRequest_keeps p hp _ _ _ _ _ rfl
  | clearFaults _ => obtain rfl := next_inj ht; exact takeRequest_keeps p hp _ _ _ _ _ (hfru s _)
  | applyPattern _ => obtain rfl := next_inj ht; exact takeRequest_keeps p hp _ _ _ _ _ (htxe s _)
  | softReset _ => obtain rfl := next_inj ht; exact takeRequest_keeps p hp _ _ _ _ _ (hp s _)
  | popRx _ | popDone _ | releaseAll _ =>
    obtain rfl := next_inj ht
    apply takeRequest_keeps p hp
    split <;> simp [refuse, accept, hcru]
  | push _ | claim _ | claimAt _ | release _ | readTable _ | ackEvents _ | setEnables _ | stagePattern _ =>
    obtain rfl := next_inj ht
    apply takeRequest_keeps p hp
    dsimp only [pushRule, claimRule, claimAtRule, releaseRule, readTableRule, ackEventsRule, setEnablesRule,
      stagePatternRule]
    (repeat' split) <;> simp [refuse, accept, hp, hcru, htxe]
  | _ => cases hi

/-- Every command keeps the presence map sound. -/
theorem exec_membershipSound (i : Instr) (s t : State) (h : MembershipSound s) (ht : exec i s = .next t) :
    MembershipSound t := by
  have hrx : ∀ b, MembershipSound (s.withLif { s.lif with rx := b }) := fun _ => h.same rfl rfl
  cases i with
  | powerOnReset | pinReset => obtain rfl := next_inj ht; exact membershipSound_resetTo _ _ _ s
  | start p n => exact membershipSound_start h p n ht
  | readAttemptEnd r => exact membershipSound_readAttemptEnd h r ht
  | sclHoldTimeout n =>
    obtain rfl := next_inj ht
    split
    · refine membershipSound_attemptFailed ?_ _
      exact h.sameConfig rfl rfl
    · exact h
  | retryWaitExpiry n =>
    obtain rfl := next_inj ht
    split
    · exact membershipSound_beginAttempt h n
    · exact h
  | transactionEnd n => exact membershipSound_transactionEnd h n ht
  | join args => exact membershipSound_join h args ht
  | withdraw args => exact membershipSound_withdraw h args ht
  | markerReceived b o p g =>
    obtain rfl := next_inj ht
    exact hear_leads h (fun _ => hrx _) (membershipSound_takeMarkerBytes h o g)
      (membershipSound_takeMarkerBytes (hrx none) o g)
  | markerSlotEnd g => exact membershipSound_markerSlotEnd h g ht
  | rollWordReceived k b p g =>
    obtain rfl := next_inj ht
    exact hear_leads h (fun _ => hrx _) (membershipSound_takeRollBytes h k g)
      (membershipSound_takeRollBytes (hrx none) k g)
  | rollSlotDamaged k g => exact membershipSound_rollSlotDamaged h k g ht
  | dataFrameReceived k b p g =>
    obtain rfl := next_inj ht
    exact hear_leads h (fun _ => hrx _) (membershipSound_takeDataBytes h k g)
      (membershipSound_takeDataBytes (hrx none) k g)
  | dataPhaseDamaged k g => exact membershipSound_dataPhaseDamaged h k g ht
  | ownMarkerReadBack r => exact membershipSound_ownMarkerReadBack h r ht
  | ownRollReadBack r => exact membershipSound_ownRollReadBack h r ht
  | ownDataReadBack r => exact membershipSound_ownDataReadBack h r ht
  | cycleStart => exact membershipSound_cycleStart h ht
  | ownRollSlot => exact membershipSound_ownRollSlot h ht
  | leaveSlotEnd =>
    obtain rfl := next_inj ht
    split
    · exact membershipSound_withdrawNow h
    · exact h
  | rollCallClose =>
    obtain rfl := next_inj ht
    split
    · exact membershipSound_close h
    · exact h
  | dataPhase k =>
    obtain rfl := next_inj ht
    split
    · exact h.same (by simp) (by simp)
    · exact h
  | listenTimerExpiry => exact membershipSound_listenTimerExpiry h ht
  | takeoverTimerExpiry => exact membershipSound_takeoverTimerExpiry h ht
  | lineFaultTimerExpiry g => exact membershipSound_lineFaultTimerExpiry h g ht
  | _ =>
    exact h.same (exec_portOnly_keeps State.rcm (fun _ _ => rfl) (fun _ _ => rfl) (fun _ _ => rfl) (fun _ _ => rfl)
      (fun _ _ => rfl) (fun _ _ => rfl) rfl ht) (exec_sameLine rfl ht).cfg

/-- Settles O55: each command keeps the map sound, with the configuration that it takes its limit from. -/
theorem thePresenceMapStaysSound : Obligations.ThePresenceMapStaysSound := by
  intro s t hconfig h ht
  exact (step_keeps (P := MembershipSound) (fun _ _ hs => hs.same rfl rfl) (fun _ _ _ hs => hs.same rfl rfl)
    exec_membershipSound s t ⟨hconfig, h⟩ ht).rcm

end Sys2Proof.Machine

namespace Sys2Proof.Machine

/-! ## An accepted roll word and its acks (R41, R43 to R45, R137) -/

/-- R41: a well-formed roll word of a peer's slot, from a present sender or a JOIN, is accepted. -/
theorem rollWordReceived_accepted {k : Addr} {b : List Byte} {w : RollWord} {s : State} (ht : s.slotTiming = true)
    (hb : parseRollWord b = some w) (hk : k ≠ s.own) (hs : w.sender = finByte k) (hf : w.wellFormed k = true)
    (hp : s.rcm.presence[k] ≠ none ∨ w.join = true) (hd : s.lif.rollDone[k] = false) :
    exec (.rollWordReceived k b) s = .next (acceptRollWord k w (rollHad k s)) := by
  have hk' : k ≠ (rollHad k s).own := hk
  have hknown : ¬ ((rollHad k s).rcm.present k = false ∧ w.join = false) := by
    rintro ⟨hn, hj⟩
    have habsent : s.rcm.presence[k] = none := by simpa [Rcm.present] using hn
    rcases hp with hp | hp
    · exact hp habsent
    · rw [hp] at hj; cases hj
  rw [rollWordReceived_some ((heardAsPeer_iff k s).mpr ⟨ht, .inl hk, hd⟩) hb]
  unfold checkRollWord
  rw [if_neg (by simp [hs]), if_neg hk', if_neg (by simp [hf]), if_neg hknown]

theorem recordFault_withRcm (k : FaultKind) (ctx : FaultCtx) (s : State) (r : Rcm) :
    recordFault k ctx (s.withRcm r) = (recordFault k ctx s).withRcm r := by
  unfold recordFault
  cases hm : masked s.fru.mask k <;> simp [hm] <;> rfl

theorem takeAck_withRcm (x : Addr) (s : State) (q : Byte) (r : Rcm) :
    takeAck x (s.withRcm r) q = (takeAck x s q).withRcm r := by
  unfold takeAck
  simp only [State.withRcm_dlt]
  split
  · exact recordFault_withRcm _ _ s r
  · split
    · exact finishEntry_withRcm _ _ s r
    · exact recordFault_withRcm _ _ s r

/-- R43, R137: the sequences of a roll word's acks for the own address, in order. -/
def ownAcks (w : RollWord) (s : State) : List Byte :=
  (w.acks.filter fun p => p.1 = finByte s.own).map Prod.snd

/-- R43 to R45: acceptance writes RCM, and does what the acks for the own address do. -/
theorem acceptRollWord_eq (k : Addr) (w : RollWord) (s : State) :
    acceptRollWord k w s = ((ownAcks w s).foldl (takeAck k) s).withRcm (acceptRollWord k w s).rcm := by
  have hfold : ∀ (l : List Byte) (u : State) (r : Rcm),
      l.foldl (takeAck k) (u.withRcm r) = (l.foldl (takeAck k) u).withRcm r := by
    intro l
    induction l with
    | nil => exact fun _ _ => rfl
    | cons q l ih => intro u r; rw [List.foldl_cons, takeAck_withRcm, ih, List.foldl_cons]
  have hacks : (w.acks.filter fun p => p.1 == finByte s.own).map Prod.snd = ownAcks w s := rfl
  unfold acceptRollWord
  dsimp only
  rw [hacks, hfold]
  split <;> rfl

/-- R131: the first entry for a destination. -/
theorem find_entry {k : Addr} {before after : List RetryEntry} {e : RetryEntry}
    (hb : ∀ x ∈ before, x.frame.dest ≠ .unicast k) (he : e.frame.dest = .unicast k) :
    (before ++ e :: after).find? (RetryEntry.isFor k) = some e ∧
      (before ++ e :: after).eraseP (RetryEntry.isFor k) = before ++ after := by
  have hnot : ∀ x ∈ before, ¬ x.isFor k = true := fun x hx => by rw [isFor_iff]; exact hb x hx
  have hfor : e.isFor k = true := (isFor_iff k e).mpr he
  constructor
  · rw [List.find?_append, List.find?_eq_none.mpr hnot, List.find?_cons_of_pos hfor]
    rfl
  · rw [List.eraseP_append_right _ hnot, List.eraseP_cons_of_pos hfor]

/-- R132, R137, R142 to R144: an ack that names the sequence of the entry for its sender delivers the entry. -/
theorem takeAck_delivers {k : Addr} {s : State} {before after : List RetryEntry} {e : RetryEntry} {q : Byte}
    (hl : s.dlt.retry = before ++ e :: after) (hb : ∀ x ∈ before, x.frame.dest ≠ .unicast k)
    (he : e.frame.dest = .unicast k) (hq : e.frame.seq = some q) :
    (takeAck k s q).fru = s.fru ∧ (takeAck k s q).dlt = { s.dlt with
      retry := before ++ after
      done := s.dlt.done ++ [{ frame := e.frame, status := .delivered, cycle := s.sync.cycleNumber }] } ∧
    ((takeAck k s q).isPending .doneReady = true ↔ s.isPending .doneReady = true ∨ s.dlt.done = []) := by
  obtain ⟨hfind, herase⟩ := find_entry (after := after) hb he
  rw [← hl] at hfind herase
  have hdlt := finishEntry_dlt k .delivered s
  rw [hfind, herase] at hdlt
  have htake : takeAck k s q = finishEntry k .delivered s := by simp [takeAck, hfind, hq]
  rw [htake, (doneReadyBy_finishEntry k .delivered s).posted, hdlt]
  exact ⟨by simp, rfl, by simp⟩

/-- R137: an ack without an entry for its sender, or for another sequence, is stale. -/
theorem takeAck_stale {k : Addr} {s : State} {q : Byte}
    (h : ∀ e, s.dlt.retry.find? (RetryEntry.isFor k) = some e → e.frame.seq ≠ some q) :
    (takeAck k s q).dlt = s.dlt ∧ (takeAck k s q).fru.seen[FaultKind.staleAck.code] = true := by
  have htake : takeAck k s q = recordFault .staleAck (.sender k) s := by
    unfold takeAck
    split
    · rfl
    · rename_i e he
      exact if_neg (h e he)
  simp [htake]

/-- Settles O30: an accepted roll word writes RCM, and its one ack for the own address, if it has one, acts on DLT. -/
theorem rollWordAcceptedWithItsAcks : Obligations.RollWordAcceptedWithItsAcks := by
  refine ⟨fun k b w s ht hb hk hs hf hp hd hacks => ?_, fun k b w q s ht hb hk hs hf hp hd hack => ?_⟩
  · have hnone : ownAcks w (rollHad k s) = [] := by
      simp only [ownAcks, List.map_eq_nil_iff, List.filter_eq_nil_iff, decide_eq_true_eq]
      exact hacks
    rw [rollWordReceived_accepted ht hb hk hs hf hp hd, acceptRollWord_eq, hnone, acceptRollWord_rcm]
    rfl
  · have hone : acceptRollWord k w (rollHad k s) =
        (takeAck k (rollHad k s) q).withRcm (acceptRollWord k w (rollHad k s)).rcm := by
      have hmine : ownAcks w (rollHad k s) = [q] := congrArg (List.map Prod.snd) hack
      rw [acceptRollWord_eq, hmine]
      rfl
    refine ⟨_, rollWordReceived_accepted ht hb hk hs hf (.inl hp) hd, by rw [acceptRollWord_rcm]; rfl, by simp,
      by simp, by simp, by simp, by simp, by simp, by simp, ?_⟩
    rw [hone]
    refine ⟨fun before after e hl hbefore he => ⟨fun hq => ?_, fun hq => ?_⟩, fun hno => ?_⟩
    · obtain ⟨hfru, hdlt, hready⟩ := takeAck_delivers (s := rollHad k s) hl hbefore he hq
      exact ⟨hfru, congrArg Dlt.retry hdlt, congrArg Dlt.done hdlt, hready⟩
    · refine takeAck_stale (s := rollHad k s) fun e' he' => ?_
      obtain ⟨hfind, -⟩ := find_entry (after := after) hbefore he
      rw [← hl] at hfind
      obtain rfl := Option.some.inj (hfind.symm.trans he')
      exact hq
    · refine takeAck_stale (s := rollHad k s) fun e he => ?_
      exact absurd ((isFor_iff k e).mp (List.find?_some he)) (hno e (List.mem_of_find?_eq_some he))

end Sys2Proof.Machine

namespace Sys2Proof.Machine

/-! ## The own roll slot by the station's state (R35 to R37, R59) -/

/-- R35: nothing is driven without slot timing, and in LEARNING. -/
theorem ownRollSlot_silent {s : State} (h : s.slotTiming = false ∨ s.sync.state = .learning) :
    exec .ownRollSlot s = .next s := by
  rcases h with h | h <;> simp [exec, execOwnRollSlot, h]

/-- R35: a JOIN. -/
theorem ownRollSlot_joining {s : State} (ht : s.slotTiming = true) (hs : s.sync.state = .joining) :
    exec .ownRollSlot s = .next (sendRoll (plainRollWord s true false false s.ptu.digestValue, s)) := by
  simp [exec, execOwnRollSlot, ht, hs]

/-- R35: a RELEARNING roll word. -/
theorem ownRollSlot_relearn {s : State} (ht : s.slotTiming = true) (hs : s.sync.state = .relearn)
    (hw : s.sync.withdrawPending = false) :
    exec .ownRollSlot s = .next (sendRoll (withAcks (plainRollWord s false false true 0xFFFF#16) s)) := by
  simp [exec, execOwnRollSlot, ht, hs, hw]

/-- R35: a normal roll word. -/
theorem ownRollSlot_active {s : State} (ht : s.slotTiming = true) (hs : s.sync.state = .active)
    (hw : s.sync.withdrawPending = false) : exec .ownRollSlot s = .next (sendNormal s) := by
  simp [exec, execOwnRollSlot, ht, hs, hw]

/-- R36, R59: the claim list of a normal roll word. -/
def claimList (s : State) : List Byte :=
  match s.cru.claim with
  | none => []
  | some c => (candidates c s.ptu.table).map finByte

/-- R36, R37: the normal roll word. -/
def normalWord (s : State) : RollWord :=
  { plainRollWord s false false false s.ptu.digestValue with
    releaseAll := s.cru.releaseAll
    claims := claimList s
    releases := s.cru.releases.map finByte
    acks := (s.rxe.acks.take 4).map ackEntry }

theorem claimList_count {s : State} {c : Claim} (hc : s.cru.claim = some c) (hk : c.kind = .count) :
    claimList s = (((List.finRange 96).filter fun k : Phase => s.ptu.table[k] = .vacant).take
      (c.requested - c.granted.length)).map finByte := by
  simp only [claimList, hc, candidates, hk]

theorem claimList_at {s : State} {c : Claim} {p : Phase} (hc : s.cru.claim = some c) (hk : c.kind = .at p) :
    claimList s = if s.ptu.table[p] = .vacant then [finByte p] else [] := by
  simp only [claimList, hc, candidates, hk]
  split <;> rfl

/-- R59, R60, R65: what sending the normal roll word does. -/
theorem sendNormal_eq (s : State) : sendNormal s = { s with
    lif := { s.lif with tx := some { frame := .roll (normalWord s), bytes := (normalWord s).bytes } }
    cru := { s.cru with
      claim := s.cru.claim.map fun c => { c with attempts := min 4 (c.attempts + 1) }
      carried := some { phases := s.cru.releases, all := s.cru.releaseAll } }
    rxe := { s.rxe with acks := s.rxe.acks.drop 4 } } := by
  have hattempt : countAttempt = fun c : Claim => { c with attempts := min 4 (c.attempts + 1) } :=
    funext fun c => by simp [countAttempt, Config.claimAttempts, Nat.min_comm]
  rw [← hattempt]
  rfl

/-- Settles O38, by the station's state. -/
theorem ownRollSlotSendsTheRollWord : Obligations.OwnRollSlotSendsTheRollWord := by
  refine ⟨⟨fun s ht hs => ⟨_, rfl, ?_⟩, fun s ht hs hw => ⟨_, rfl, ?_⟩, fun s => ownRollSlot_silent⟩,
    fun s ht hs hw => ⟨normalWord s, rfl, rfl, rfl, rfl, rfl, rfl, rfl, rfl, rfl, fun hc => ?_,
      fun c => claimList_count, fun c p => claimList_at, ?_⟩⟩
  · exact ownRollSlot_joining ht hs
  · exact ownRollSlot_relearn ht hs hw
  · simp only [normalWord, claimList, hc]
  · rw [ownRollSlot_active ht hs hw, sendNormal_eq]

end Sys2Proof.Machine

namespace Sys2Proof.Machine

/-! ## What a close decides for an address (R49, R50) -/

/-- R49, R50: `arrivalAt` as a decision. -/
def arrives (s : State) (a : Addr) : Bool :=
  match s.rcm.record[a] with
  | none => false
  | some w =>
    if a = s.own then decide (s.sync.state = .joining ∧ w.join = true)
    else decide (w.join = true ∧ (s.rcm.presence[a] = none ∨ w.leave = false))

theorem arrives_iff (s : State) (a : Addr) : arrives s a = true ↔ arrivalAt s a := by
  unfold arrives arrivalAt
  cases s.rcm.record[a] with
  | none => simp
  | some w => dsimp only; split <;> simp

/-- R49, R50: the close decides a departure for address `a`. -/
def departs (s : State) (a : Addr) : Bool := (departureAt s a).isSome

theorem departs_iff (s : State) (a : Addr) : departs s a = true ↔ departureAt s a ≠ none := Option.isSome_iff_ne_none

/-- R49, R50: the count of an address that neither arrives nor departs. -/
def countAfter (s : State) (a : Addr) : Option Nat :=
  match s.rcm.presence[a], s.rcm.record[a] with
  | none, _ => none
  | some n, none => if a = s.own then some n else some (n + 1)
  | some n, some _ => if a = s.own ∧ s.sync.state = .joining then some n else some 0

/-- R49, R50: the entry of `a` in the presence map behind the decisions. -/
def presenceAfter (s : State) (a : Addr) : Option Nat :=
  if arrives s a then some 0 else if departs s a then none else countAfter s a

/-- R51: the departure that the close at `s` decides for `a`, on the way at `u`. -/
def departFor (s u : State) (a : Addr) : State :=
  match departureAt s a with
  | none => u
  | some why => departAtClose a why u

/-- R49, R50: what the close at `s` does for `a`, on the way at `u`: a departure, then an arrival or a count. -/
def closeAddress (s u : State) (a : Addr) : State :=
  if arrives s a then arrive a ((s.rcm.record[a].map RollWord.degraded).getD false) (departFor s u a)
  else (departFor s u a).withRcm { (departFor s u a).rcm with
    presence := (departFor s u a).rcm.presence.set a (presenceAfter s a) }

/-- On the way at `u` the close finds for `a` what it found at `s`. -/
structure AsFound (s u : State) (a : Addr) : Prop where
  own : u.own = s.own
  state : u.sync.state = s.sync.state
  presence : u.rcm.presence[a] = s.rcm.presence[a]
  record : u.rcm.record[a] = s.rcm.record[a]
  limit : u.rcm.absenceLimit = s.rcm.absenceLimit

theorem withPresence_same {u : State} {a : Addr} {p : Option Nat} (h : u.rcm.presence[a] = p) :
    u.withRcm { u.rcm with presence := u.rcm.presence.set a p } = u := by
  have hset : u.rcm.presence.set a p = u.rcm.presence := by
    rw [← h]
    exact Vector.set_getElem_self _
  rw [hset]
  rfl

theorem departAtClose_rcm (a : Addr) (why : DepartReason) (s : State) : (departAtClose a why s).rcm = { s.rcm with
    presence := s.rcm.presence.set a none, degraded := s.rcm.degraded.set a false
    lastDeparture := some { addr := a, reason := why, cycle := s.cycle } } := by
  unfold departAtClose
  dsimp only
  split <;> simp [noteDeparture, removePresent, State.cycle]

theorem departAtClose_presence (a : Addr) (why : DepartReason) (s : State) :
    (departAtClose a why s).rcm.presence[a] = none := by
  rw [departAtClose_rcm]
  simp

/-- R49: a peer is decided as the close found it. -/
theorem decidePeer_eq {s u : State} {a : Addr} (h : AsFound s u a) (ha : a ≠ s.own) :
    decidePeer a u = closeAddress s u a := by
  obtain ⟨-, -, hp, hr, hl⟩ := h
  unfold decidePeer closeAddress departFor presenceAfter departs countAfter departureAt arrives
  rw [hl]
  simp only [hp, hr, if_neg ha]
  cases hpres : s.rcm.presence[a] with
  | none =>
    cases hrec : s.rcm.record[a] with
    | none => simpa using (withPresence_same (hp.trans hpres)).symm
    | some w =>
      by_cases hj : w.join = true
      · simp [hj]
      · simpa [hj] using (withPresence_same (hp.trans hpres)).symm
  | some n =>
    cases hrec : s.rcm.record[a] with
    | none =>
      by_cases hn : s.rcm.absenceLimit ≤ n + 1
      · simpa [hn] using (withPresence_same (departAtClose_presence a .timeout u)).symm
      · simp [hn]
    | some w =>
      by_cases hleave : w.leave = true
      · simpa [hleave] using (withPresence_same (departAtClose_presence a .left u)).symm
      · by_cases hj : w.join = true <;> simp [hleave, hj, ha]

/-- R50: so is the own address. -/
theorem decideOwn_eq {s u : State} (h : AsFound s u u.own) : decideOwn u = closeAddress s u u.own := by
  obtain ⟨ho, hst, hp, hr, -⟩ := h
  have hpresent : u.rcm.present u.own = s.rcm.presence[u.own].isSome := by rw [← hp]; rfl
  unfold decideOwn closeAddress departFor presenceAfter departs countAfter departureAt arrives
  rw [hpresent, hst]
  simp only [hr, if_pos ho]
  cases hrec : s.rcm.record[u.own] with
  | none =>
    cases hpres : s.rcm.presence[u.own] <;> simpa [ho] using (withPresence_same (hp.trans hpres)).symm
  | some w =>
    by_cases hj : s.sync.state = .joining
    · by_cases hw : w.join = true
      · cases hpres : s.rcm.presence[u.own] <;> simp [hj, hw]
      · cases hpres : s.rcm.presence[u.own] <;> simpa [hj, hw, ho] using (withPresence_same (hp.trans hpres)).symm
    · cases hpres : s.rcm.presence[u.own] with
      | none => simpa [hj] using (withPresence_same (hp.trans hpres)).symm
      | some n => simp [hj]

theorem decideMember_eq {s u : State} {a : Addr} (h : AsFound s u a) : decideMember u a = closeAddress s u a := by
  unfold decideMember
  split
  · rename_i ha
    subst ha
    exact decideOwn_eq h
  · rename_i ha
    exact decidePeer_eq h (by rw [← h.own]; exact ha)

end Sys2Proof.Machine

namespace Sys2Proof.Machine

/-! ## A departure at a close, part by part (R51) -/

theorem departAtClose_txe (a : Addr) (why : DepartReason) (s : State) :
    (departAtClose a why s).txe = { s.txe with nextSeq := s.txe.nextSeq.set a 0#8 } := by
  unfold departAtClose
  dsimp only
  split <;> simp [tellDeparted]

theorem departAtClose_rxe (a : Addr) (why : DepartReason) (s : State) : (departAtClose a why s).rxe = { s.rxe with
    lastAcc := s.rxe.lastAcc.set a none, acks := s.rxe.acks.filter (fun p => p.1 ≠ a) } := by
  unfold departAtClose
  dsimp only
  split <;> simp [tellDeparted]

theorem departAtClose_cycleNumber (a : Addr) (why : DepartReason) (s : State) :
    (departAtClose a why s).sync.cycleNumber = s.sync.cycleNumber := by
  unfold departAtClose
  dsimp only
  split <;> simp

/-- R51, R139: DLT and the events see the end of the entry for `a` and MEMBERSHIP, from a state with the same ones. -/
theorem departAtClose_told (a : Addr) (why : DepartReason) (s : State) : ∃ u : State,
    u.dlt = s.dlt ∧ u.sync = s.sync ∧ (∀ e, u.isPending e = s.isPending e) ∧
      (departAtClose a why s).dlt = (finishEntry a .destLeft u).dlt ∧
      ∀ e, (departAtClose a why s).isPending e =
        (decide (Event.membership = e) || (finishEntry a .destLeft u).isPending e) := by
  refine ⟨(removePresent a s).withPtu { s.ptu with table := coolOwner a s.ptu.table }, rfl, rfl, fun _ => rfl, ?_,
    fun e => ?_⟩
  · unfold departAtClose
    dsimp only
    split <;> simp [tellDeparted]
  · unfold departAtClose noteDeparture
    dsimp only
    rw [post_isPending]
    split <;> rfl

theorem departAtClose_isPending (a : Addr) (why : DepartReason) (s : State) {e : Event} (he : e ≠ .doneReady) :
    (departAtClose a why s).isPending e = (decide (Event.membership = e) || s.isPending e) := by
  obtain ⟨u, -, -, hpend, -, hposts⟩ := departAtClose_told a why s
  rw [hposts, finishEntry_isPending he, hpend]

theorem doneReadyBy_departAtClose (a : Addr) (why : DepartReason) (s : State) :
    DoneReadyBy s (departAtClose a why s) := by
  obtain ⟨u, hdlt, -, hpend, hdone, hposts⟩ := departAtClose_told a why s
  have hsame : DoneReadyBy s u := .of_same (by rw [hdlt]) (hpend _)
  exact (hsame.trans (doneReadyBy_finishEntry a .destLeft u)).trans (.of_same (by rw [hdone]) (by rw [hposts]; rfl))

/-- R139: the entry of a departed address leaves the retry list and completes. -/
def leaveDlt (cycle : Option Half) (d : Dlt) (a : Addr) : Dlt :=
  { d with
    retry := d.retry.filter fun e => !e.isFor a
    done := d.done ++ (d.retry.filter (RetryEntry.isFor a)).map (leftDone cycle) }

theorem departAtClose_dlt (a : Addr) (why : DepartReason) {s : State}
    (h : s.dlt.retry.Pairwise fun e f => e.frame.dest ≠ f.frame.dest) :
    (departAtClose a why s).dlt = leaveDlt s.sync.cycleNumber s.dlt a := by
  obtain ⟨u, hdlt, hsync, -, hdone, -⟩ := departAtClose_told a why s
  rw [hdone, finishEntry_destLeft (by rw [hdlt]; exact h), hdlt, hsync]
  rfl

/-! ## What the close does for one address, part by part -/

@[simp] theorem closeAddress_cfg (s u : State) (a : Addr) : (closeAddress s u a).cfg = u.cfg := by
  unfold closeAddress departFor
  (repeat' split) <;> simp

theorem closeAddress_state (s u : State) (a : Addr) : (closeAddress s u a).sync.state = u.sync.state := by
  unfold closeAddress departFor
  (repeat' split) <;> simp [departAtClose_state]

theorem closeAddress_cycleNumber (s u : State) (a : Addr) :
    (closeAddress s u a).sync.cycleNumber = u.sync.cycleNumber := by
  unfold closeAddress departFor
  (repeat' split) <;> simp [departAtClose_cycleNumber]

/-- R51, R52: of RCM a decision writes the map, the degraded flags and the last records. -/
theorem closeAddress_rcm (s u : State) (a : Addr) : (closeAddress s u a).rcm = { u.rcm with
    presence := (closeAddress s u a).rcm.presence
    degraded := (closeAddress s u a).rcm.degraded
    lastArrival := (closeAddress s u a).rcm.lastArrival
    lastDeparture := (closeAddress s u a).rcm.lastDeparture } := by
  unfold closeAddress departFor
  (repeat' split) <;> simp [arrive_rcm, departAtClose_rcm]

theorem closeAddress_presence (s u : State) (a : Addr) :
    (closeAddress s u a).rcm.presence = u.rcm.presence.set a (presenceAfter s a) := by
  unfold closeAddress departFor
  split
  · rename_i h
    split <;> simp [arrive_rcm, departAtClose_rcm, presenceAfter, h]
  · split <;> simp [departAtClose_rcm]

theorem closeAddress_lastDeparture {s u : State} (a : Addr) (hu : u.sync.cycleNumber = s.sync.cycleNumber) :
    (closeAddress s u a).rcm.lastDeparture = if departs s a
      then some { addr := a, reason := (departureAt s a).getD .timeout, cycle := s.cycle }
      else u.rcm.lastDeparture := by
  unfold closeAddress departFor departs
  cases departureAt s a <;> split <;> simp [arrive_rcm, departAtClose_rcm, State.cycle, hu]

theorem closeAddress_lastArrival {s u : State} (a : Addr) (hu : u.sync.cycleNumber = s.sync.cycleNumber) :
    (closeAddress s u a).rcm.lastArrival =
      if arrives s a then some { addr := a, cycle := s.cycle } else u.rcm.lastArrival := by
  unfold closeAddress departFor
  split <;> split <;> simp [arrive_rcm, departAtClose_rcm, departAtClose_cycleNumber, State.cycle, hu]

theorem closeAddress_nextSeq (s u : State) (a : Addr) : (closeAddress s u a).txe.nextSeq =
    if departs s a then u.txe.nextSeq.set a 0#8 else u.txe.nextSeq := by
  unfold closeAddress departFor departs
  cases departureAt s a <;> split <;> simp [departAtClose_txe]

theorem closeAddress_lastAcc (s u : State) (a : Addr) : (closeAddress s u a).rxe.lastAcc =
    if departs s a then u.rxe.lastAcc.set a none else u.rxe.lastAcc := by
  unfold closeAddress departFor departs
  cases departureAt s a <;> split <;> simp [departAtClose_rxe]

theorem closeAddress_acks (s u : State) (a : Addr) : (closeAddress s u a).rxe.acks =
    if departs s a then u.rxe.acks.filter (fun p => p.1 ≠ a) else u.rxe.acks := by
  unfold closeAddress departFor departs
  cases departureAt s a <;> split <;> simp [departAtClose_rxe]

theorem closeAddress_dlt {s u : State} (a : Addr) (h : u.dlt.retry.Pairwise fun e f => e.frame.dest ≠ f.frame.dest) :
    (closeAddress s u a).dlt = if departs s a then leaveDlt u.sync.cycleNumber u.dlt a else u.dlt := by
  unfold closeAddress departFor departs
  cases departureAt s a <;> split <;> simp [departAtClose_dlt _ _ h]

theorem closeAddress_membership (s u : State) (a : Addr) : (closeAddress s u a).isPending .membership =
    (u.isPending .membership || (arrives s a || departs s a)) := by
  have hkept : ∀ (v : State) (r : Rcm), (v.withRcm r).isPending .membership = v.isPending .membership := fun _ _ => rfl
  unfold closeAddress departFor departs
  cases departureAt s a <;> split <;> rename_i h <;>
    simp [arrive_isPending, hkept, departAtClose_isPending, h]

theorem doneReadyBy_closeAddress (s u : State) (a : Addr) : DoneReadyBy u (closeAddress s u a) := by
  have hdepart : DoneReadyBy u (departFor s u a) := by
    unfold departFor
    split
    · exact .of_same rfl rfl
    · exact doneReadyBy_departAtClose _ _ u
  unfold closeAddress
  split
  · exact hdepart.trans (.of_same (by simp) (by rw [arrive_isPending]; rfl))
  · exact hdepart.trans (.of_same rfl rfl)

end Sys2Proof.Machine

namespace Sys2Proof.Machine

/-! ## The decisions of a close over the addresses (R69) -/

theorem asFound_closeAddress {s u : State} {a b : Addr} (h : AsFound s u b) (hab : a ≠ b) :
    AsFound s (closeAddress s u a) b where
  own := by rw [← h.own]; simp [State.own]
  state := by rw [closeAddress_state, h.state]
  presence := by
    have hv : a.val ≠ b.val := fun he => hab (Fin.ext he)
    rw [closeAddress_presence, ← h.presence]
    exact Vector.getElem_set_ne _ _ hv
  record := by rw [closeAddress_rcm]; exact h.record
  limit := by rw [closeAddress_rcm]; exact h.limit

/-- Addresses that are each met once are each decided as the close found them. -/
theorem foldl_decideMember {s : State} (l : List Addr) (hl : l.Nodup) (u : State) (h : ∀ a ∈ l, AsFound s u a) :
    l.foldl decideMember u = l.foldl (closeAddress s) u := by
  induction l generalizing u with
  | nil => rfl
  | cons a l ih =>
    obtain ⟨ha, hl⟩ := List.nodup_cons.mp hl
    rw [List.foldl_cons, List.foldl_cons, decideMember_eq (h a (by simp))]
    exact ih hl _ fun b hb => asFound_closeAddress (h b (by simp [hb])) (by rintro rfl; exact ha hb)

/-- What a step of a fold makes of a part of the state, the fold makes of it step by step. -/
theorem foldl_part {α γ : Type} (g : State → γ) (h : γ → α → γ) {f : State → α → State} (P : State → Prop)
    (keeps : ∀ u a, P u → P (f u a)) (hstep : ∀ u a, P u → g (f u a) = h (g u) a) (l : List α) (u : State)
    (hu : P u) : g (l.foldl f u) = l.foldl h (g u) := by
  induction l generalizing u with
  | nil => rfl
  | cons a l ih => rw [List.foldl_cons, List.foldl_cons, ih _ (keeps u a hu), hstep u a hu]

/-- An entry that each address writes for itself. -/
theorem foldl_set_each {α : Type} (F : Addr → α) (l : List Addr) (v : Vector α 32) (b : Addr) :
    (l.foldl (fun v a => v.set a (F a)) v)[b] = if b ∈ l then F b else v[b] := by
  induction l generalizing v with
  | nil => simp
  | cons a l ih =>
    rw [List.foldl_cons, ih]
    by_cases hab : a = b
    · subst hab; simp
    · have hv : a.val ≠ b.val := fun he => hab (Fin.ext he)
      simp [hv, Ne.symm hab]

/-- R139: the departures of addresses that are each met once, in DLT. -/
theorem foldl_leaveDlt (c : Option Half) (l : List Addr) (hl : l.Nodup) (d : Dlt) : l.foldl (leaveDlt c) d = { d with
    retry := d.retry.filter fun e => !l.any fun a => e.isFor a
    done := d.done ++ l.flatMap fun a => (d.retry.filter (RetryEntry.isFor a)).map (leftDone c) } := by
  induction l generalizing d with
  | nil => simp
  | cons a l ih =>
    obtain ⟨ha, hl⟩ := List.nodup_cons.mp hl
    have hothers : (l.flatMap fun b => ((d.retry.filter fun e => !e.isFor a).filter (RetryEntry.isFor b)).map
        (leftDone c)) = l.flatMap fun b => (d.retry.filter (RetryEntry.isFor b)).map (leftDone c) :=
      List.flatMap_congr fun b hb => by rw [filter_isFor_of_ne (by rintro rfl; exact ha hb)]
    rw [List.foldl_cons, ih hl]
    dsimp only [leaveDlt]
    rw [hothers, List.filter_filter]
    simp only [List.flatMap_cons, List.append_assoc, List.any_cons, Bool.not_or, Bool.and_comm]

/-- R44, R69: the addresses decided, before the degraded map follows the roll words. -/
def closeDecided (s : State) : State :=
  (List.finRange 32).foldl (closeAddress s) (s.withRcm { s.rcm with disagreeing := s.rcm.tally, tally := 0 })

theorem membershipStage_eq (s : State) :
    membershipStage s = (closeDecided s).withRcm (updateDegraded (closeDecided s).rcm) := by
  have hfold := foldl_decideMember (s := s) (List.finRange 32) (List.nodup_finRange 32)
    (s.withRcm { s.rcm with disagreeing := s.rcm.tally, tally := 0 }) fun _ _ => ⟨rfl, rfl, rfl, rfl, rfl⟩
  unfold membershipStage closeDecided
  dsimp only
  rw [hfold]

/-- What a decision makes of a part of the state, the 32 decisions make of it address by address. -/
theorem closeDecided_part {γ : Type} (g : State → γ) (h : γ → Addr → γ) {s : State}
    (hstep : ∀ u a, u.sync.cycleNumber = s.sync.cycleNumber → g (closeAddress s u a) = h (g u) a) :
    g (closeDecided s) =
      (List.finRange 32).foldl h (g (s.withRcm { s.rcm with disagreeing := s.rcm.tally, tally := 0 })) :=
  foldl_part g h (fun u => u.sync.cycleNumber = s.sync.cycleNumber)
    (fun u a hu => (closeAddress_cycleNumber s u a).trans hu) hstep _ _ rfl

/-- R49, R50: the map behind the decisions. -/
theorem closeDecided_presence (s : State) (a : Addr) : (closeDecided s).rcm.presence[a] = presenceAfter s a := by
  rw [closeDecided_part (fun u => u.rcm.presence) (fun v a => v.set a (presenceAfter s a))
    fun u a _ => closeAddress_presence s u a, foldl_set_each]
  simp

theorem closeDecided_nextSeq (s : State) (a : Addr) :
    (closeDecided s).txe.nextSeq[a] = if departs s a then 0#8 else s.txe.nextSeq[a] := by
  rw [closeDecided_part (fun u => u.txe.nextSeq) (fun v a => if departs s a then v.set a 0#8 else v)
    fun u a _ => closeAddress_nextSeq s u a, foldl_set_where]
  simp

theorem closeDecided_lastAcc (s : State) (a : Addr) :
    (closeDecided s).rxe.lastAcc[a] = if departs s a then none else s.rxe.lastAcc[a] := by
  rw [closeDecided_part (fun u => u.rxe.lastAcc) (fun v a => if departs s a then v.set a none else v)
    fun u a _ => closeAddress_lastAcc s u a, foldl_set_where]
  simp

theorem closeDecided_acks (s : State) :
    (closeDecided s).rxe.acks = s.rxe.acks.filter fun p => !departs s p.1 := by
  rw [closeDecided_part (fun u => u.rxe.acks) (fun r a => if departs s a then r.filter (fun p => p.1 ≠ a) else r)
    fun u a _ => closeAddress_acks s u a, foldl_filter_where]
  simp

/-- R51: the last departure record names the highest address that departs. -/
theorem closeDecided_lastDeparture (s : State) :
    (∀ a : Addr, highest (departs s) a → (closeDecided s).rcm.lastDeparture =
      some { addr := a, reason := (departureAt s a).getD .timeout, cycle := s.cycle }) ∧
    ((∀ a : Addr, departs s a = false) → (closeDecided s).rcm.lastDeparture = s.rcm.lastDeparture) := by
  have h := closeDecided_part (fun u => u.rcm.lastDeparture)
    (fun r a => if departs s a
      then some { addr := a, reason := (departureAt s a).getD .timeout, cycle := s.cycle } else r)
    fun u a hu => closeAddress_lastDeparture (s := s) a hu
  obtain ⟨hhigh, hnone⟩ := foldl_record_where (departs s)
    (fun a => ({ addr := a, reason := (departureAt s a).getD .timeout, cycle := s.cycle } : Departure)) _
    ascending_finRange s.rcm.lastDeparture
  exact ⟨fun a ha => h.trans (hhigh a (List.mem_finRange a) ha), fun hn => h.trans (hnone fun a _ => hn a)⟩

/-- R52: the last arrival record names the highest address that arrives. -/
theorem closeDecided_lastArrival (s : State) :
    (∀ a : Addr, highest (arrives s) a →
      (closeDecided s).rcm.lastArrival = some { addr := a, cycle := s.cycle }) ∧
    ((∀ a : Addr, arrives s a = false) → (closeDecided s).rcm.lastArrival = s.rcm.lastArrival) := by
  have h := closeDecided_part (fun u => u.rcm.lastArrival)
    (fun r a => if arrives s a then some { addr := a, cycle := s.cycle } else r)
    fun u a hu => closeAddress_lastArrival (s := s) a hu
  obtain ⟨hhigh, hnone⟩ := foldl_record_where (arrives s)
    (fun a => ({ addr := a, cycle := s.cycle } : Arrival)) _ ascending_finRange s.rcm.lastArrival
  exact ⟨fun a ha => h.trans (hhigh a (List.mem_finRange a) ha), fun hn => h.trans (hnone fun a _ => hn a)⟩

theorem closeDecided_membership (s : State) : (closeDecided s).isPending .membership = true ↔
    s.isPending .membership = true ∨ ∃ a : Addr, arrives s a = true ∨ departs s a = true := by
  rw [closeDecided_part (fun u => u.isPending .membership) (fun b a => b || (arrives s a || departs s a))
    fun u a _ => closeAddress_membership s u a, foldl_or]
  simp only [List.mem_finRange, true_and, Bool.or_eq_true]
  exact Iff.rfl

/-- R139: the entries of departed addresses leave the list and complete, in the order of the addresses. -/
theorem closeDecided_dlt {s : State} (h : RetryListSound s.dlt.retry) : (closeDecided s).dlt = { s.dlt with
    retry := stayingEntries (departs s) s.dlt.retry
    done := s.dlt.done ++ leftCompletions (departs s) s.sync.cycleNumber s.dlt.retry } := by
  have hfold := foldl_part (f := closeAddress s) State.dlt
    (fun d a => if departs s a then leaveDlt s.sync.cycleNumber d a else d)
    (fun u => u.sync.cycleNumber = s.sync.cycleNumber ∧
      u.dlt.retry.Pairwise fun e f => e.frame.dest ≠ f.frame.dest)
    (fun u a hu => ⟨(closeAddress_cycleNumber s u a).trans hu.1, by
      rw [closeAddress_dlt a hu.2]
      split
      · exact hu.2.filter _
      · exact hu.2⟩)
    (fun u a hu => by rw [closeAddress_dlt a hu.2, hu.1]) (List.finRange 32)
    (s.withRcm { s.rcm with disagreeing := s.rcm.tally, tally := 0 }) ⟨rfl, h.onePerDestination⟩
  rw [← List.foldl_filter, foldl_leaveDlt _ _ ((List.nodup_finRange 32).filter _), State.withRcm_dlt,
    stayingEntries_eq h.noBroadcast, ← leftCompletions_eq] at hfold
  exact hfold

theorem doneReadyBy_closeDecided (s : State) : DoneReadyBy s (closeDecided s) :=
  foldl_holds (P := DoneReadyBy s) (fun u a hu => hu.trans (doneReadyBy_closeAddress s u a)) _ _ (.of_same rfl rfl)

/-- R51, R52: what the decisions leave of RCM. -/
theorem closeDecided_rcm (s : State) : (closeDecided s).rcm.record = s.rcm.record ∧
    (closeDecided s).rcm.absenceLimit = s.rcm.absenceLimit ∧
    (closeDecided s).rcm.ownCollisions = s.rcm.ownCollisions ∧
    (closeDecided s).rcm.disagreeing = s.rcm.tally ∧ (closeDecided s).rcm.tally = 0 := by
  refine ⟨?_, ?_, ?_, ?_, ?_⟩
  · exact foldl_keeps (fun u => u.rcm.record) _ (fun u a => by rw [closeAddress_rcm]) _ _
  · exact foldl_keeps (fun u => u.rcm.absenceLimit) _ (fun u a => by rw [closeAddress_rcm]) _ _
  · exact foldl_keeps (fun u => u.rcm.ownCollisions) _ (fun u a => by rw [closeAddress_rcm]) _ _
  · exact foldl_keeps (fun u => u.rcm.disagreeing) _ (fun u a => by rw [closeAddress_rcm]) _ _
  · exact foldl_keeps (fun u => u.rcm.tally) _ (fun u a => by rw [closeAddress_rcm]) _ _

end Sys2Proof.Machine

namespace Sys2Proof.Machine

/-! ## What the close leaves of the decisions (R69 to R74) -/

theorem close_fields (s : State) : (close s).txe = (closeDecided s).txe ∧ (close s).dlt = (closeDecided s).dlt ∧
    (close s).rxe = (closeDecided s).rxe := by
  unfold close
  dsimp only
  refine ⟨?_, ?_, ?_⟩ <;> split <;> simp [membershipStage_eq]

theorem close_rcm_eq (s : State) : (close s).rcm = updateDegraded (closeDecided s).rcm := by
  rw [close_rcm, membershipStage_eq]
  rfl

theorem applyCarried_isPending (s : State) {e : Event} (he : e ≠ .releaseEnd) :
    (applyCarried s).isPending e = s.isPending e := by
  unfold applyCarried
  dsimp only
  (repeat' split)
  · rfl
  · rw [post_isPending, decide_eq_false (Ne.symm he), Bool.false_or]
    rfl
  · rfl

theorem evaluateClaim_isPending (g : List Phase) (s : State) {e : Event} (he : e ≠ .claimEnd) :
    (evaluateClaim g s).isPending e = s.isPending e := by
  unfold evaluateClaim endClaim
  dsimp only
  (repeat' split)
  · rfl
  · rw [post_isPending, decide_eq_false (Ne.symm he), Bool.false_or]
    rfl
  · rfl

/-- R55, R65, R79: behind the decisions a close posts CLAIM_END, RELEASE_END and SYNC_STATE at most. -/
theorem close_isPending (s : State) {e : Event} (he : e ≠ .claimEnd ∧ e ≠ .releaseEnd ∧ e ≠ .syncState) :
    (close s).isPending e = (closeDecided s).isPending e := by
  have hstages : ∀ (g : List Phase) (p : Ptu),
      (evaluateClaim g (applyCarried ((membershipStage s).withPtu p))).isPending e = (closeDecided s).isPending e := by
    intro g p
    rw [evaluateClaim_isPending _ _ he.1, applyCarried_isPending _ he.2.1, membershipStage_eq]
    rfl
  unfold close
  dsimp only
  split
  · rw [enter_isPending, decide_eq_false (Ne.symm he.2.2), Bool.false_or, hstages]
  · exact hstages _ _

theorem close_presence (s : State) (a : Addr) : (close s).rcm.presence[a] = presenceAfter s a := by
  rw [close_rcm_eq]
  exact closeDecided_presence s a

/-- R53: the flag of a present address whose roll word is in the record. -/
theorem close_degraded {s : State} {a : Addr} {w : RollWord} (hw : s.rcm.record[a] = some w)
    (hp : (close s).rcm.presence[a] ≠ none) : (close s).rcm.degraded[a] = w.degraded := by
  have hrecord : (closeDecided s).rcm.record[a] = some w := by rw [(closeDecided_rcm s).1]; exact hw
  have hpresent : (closeDecided s).rcm.present a = true := by
    rw [close_rcm_eq] at hp
    exact Option.isSome_iff_ne_none.mpr hp
  rw [close_rcm_eq]
  simp only [updateDegraded, getElem_fin_tab, hrecord, hpresent, if_true]

/-- R49, R50: the map behind a close, case by case. -/
theorem close_presence_cases (s : State) (a : Addr) :
    (arrivalAt s a → (close s).rcm.presence[a] = some 0) ∧
    (¬arrivalAt s a → departureAt s a ≠ none → (close s).rcm.presence[a] = none) ∧
    (¬arrivalAt s a → departureAt s a = none → (close s).rcm.presence[a] = countAfter s a) := by
  rw [close_presence, ← arrives_iff, ← departs_iff]
  unfold presenceAfter
  refine ⟨fun h => if_pos h, fun h hd => ?_, fun h hd => ?_⟩
  · rw [if_neg h, if_pos hd]
  · rw [if_neg h, if_neg (by simp [departs, hd])]

theorem not_arrivalAt_of_unheard {s : State} {a : Addr} (h : s.rcm.record[a] = none) : ¬arrivalAt s a := by
  unfold arrivalAt
  rw [h]
  exact id

/-- R114, R122, R129: TXE and RXE behind the departure of `a`. -/
theorem close_departed {s : State} {a : Addr} (h : departureAt s a ≠ none) :
    (close s).rxe.lastAcc[a] = none ∧ (close s).txe.nextSeq[a] = 0#8 ∧ ∀ p ∈ (close s).rxe.acks, p.1 ≠ a := by
  obtain ⟨htxe, -, hrxe⟩ := close_fields s
  have hd : departs s a = true := (departs_iff s a).mpr h
  rw [htxe, hrxe, closeDecided_lastAcc, closeDecided_nextSeq, closeDecided_acks]
  refine ⟨if_pos hd, if_pos hd, fun p hp => ?_⟩
  rintro rfl
  simp [hd] at hp

/-- R51, R52: the last records behind a close. -/
theorem close_lastRecords (s : State) :
    (∀ (a : Addr) (why : DepartReason), highest (departs s) a → departureAt s a = some why →
      (close s).rcm.lastDeparture = some { addr := a, reason := why, cycle := s.cycle }) ∧
    ((∀ a : Addr, departureAt s a = none) → (close s).rcm.lastDeparture = s.rcm.lastDeparture) ∧
    (∀ a : Addr, arrivalAt s a → (∀ b : Addr, a < b → ¬arrivalAt s b) →
      (close s).rcm.lastArrival = some { addr := a, cycle := s.cycle }) ∧
    ((∀ a : Addr, ¬arrivalAt s a) → (close s).rcm.lastArrival = s.rcm.lastArrival) := by
  obtain ⟨hdep, hdepNone⟩ := closeDecided_lastDeparture s
  obtain ⟨harr, harrNone⟩ := closeDecided_lastArrival s
  have hnot : ∀ b, ¬arrivalAt s b → arrives s b = false := fun b hb => by rwa [← arrives_iff, Bool.not_eq_true] at hb
  rw [close_rcm_eq]
  refine ⟨fun a why ha hwhy => ?_, fun hn => hdepNone fun a => by simp [departs, hn],
    fun a ha hlast => harr a ⟨(arrives_iff s a).mpr ha, fun b hb => hnot b (hlast b hb)⟩,
    fun hn => harrNone fun a => hnot a (hn a)⟩
  have hrecord := hdep a ha
  rw [hwhy] at hrecord
  exact hrecord

theorem close_membership_pending (s : State) : (close s).isPending .membership = true ↔
    s.isPending .membership = true ∨ ∃ a : Addr, arrivalAt s a ∨ departureAt s a ≠ none := by
  rw [close_isPending s (by decide), closeDecided_membership]
  simp only [arrives_iff, departs_iff]

/-- R139, R144: DLT behind a close. -/
theorem close_dlt {s : State} (h : RetryListSound s.dlt.retry) : (close s).dlt = { s.dlt with
      retry := stayingEntries (departs s) s.dlt.retry
      done := s.dlt.done ++ leftCompletions (departs s) s.sync.cycleNumber s.dlt.retry } ∧
    ((close s).isPending .doneReady = true ↔ s.isPending .doneReady = true ∨
      (s.dlt.done = [] ∧ leftCompletions (departs s) s.sync.cycleNumber s.dlt.retry ≠ [])) := by
  obtain ⟨-, hdlt, -⟩ := close_fields s
  rw [hdlt, close_isPending s (by decide), (doneReadyBy_closeDecided s).posted, closeDecided_dlt h]
  exact ⟨rfl, or_congr_right (and_congr_right fun hd => by simp [hd])⟩

/-- Settles O39: the decisions of the close address by address, and what each part of the state shows of them. -/
theorem closeDecidesMembership : Obligations.CloseDecidesMembership := by
  refine ⟨fun s ht => ⟨close s, by simp [exec, execRollCallClose, ht], ?_⟩,
    fun s ht => by simp [exec, execRollCallClose, ht]⟩
  obtain ⟨hrecord, hlimit, hcollisions, hdisagreeing, htally⟩ := closeDecided_rcm s
  obtain ⟨hdep, hdepNone, harr, harrNone⟩ := close_lastRecords s
  have hcycle : ∀ {n : Half}, s.sync.cycleNumber = some n → s.cycle = n := fun hn => by simp [State.cycle, hn]
  have hrcm := close_rcm_eq s
  refine ⟨by rw [hrcm]; exact hdisagreeing, by rw [hrcm]; exact htally, by rw [hrcm]; exact hrecord,
    by rw [hrcm]; exact hlimit, by rw [hrcm]; exact hcollisions, fun a => ?_,
    fun a why n hn ha hwhy => hcycle hn ▸ hdep a why ha hwhy, hdepNone,
    fun a n hn ha hlast => hcycle hn ▸ harr a ha hlast, harrNone, close_membership_pending s, close_dlt⟩
  obtain ⟨harrives, hdeparts, hstays⟩ := close_presence_cases s a
  refine ⟨harrives, hdeparts, fun hna hnd hp => ?_, fun hna hnd n w hp hw hown => ?_, fun hnd n hp hw => ?_,
    fun w => close_degraded, close_departed⟩
  · rw [hstays hna hnd]
    simp only [countAfter, hp]
  · rw [hstays hna hnd]
    simp only [countAfter, hp, hw]
    exact if_neg fun hboth => hown.elim (· hboth.1) (· hboth.2)
  · rw [hstays (not_arrivalAt_of_unheard hw) hnd]
    simp only [countAfter, hp, hw]

end Sys2Proof.Machine

namespace Sys2Proof.Machine

/-! ## The release list in its order (R63) -/

/-- R63: a phase that an ascending list lacks goes behind the lower ones and before the higher ones. -/
theorem insertPhase_split {p : Phase} {l : List Phase} (hl : l.Pairwise (· < ·)) (hp : p ∉ l) :
    ∃ below above : List Phase, l = below ++ above ∧ (∀ q ∈ below, q < p) ∧ (∀ q ∈ above, p < q) ∧
      insertPhase p l = below ++ p :: above := by
  induction l with
  | nil => exact ⟨[], [], rfl, by simp, by simp, rfl⟩
  | cons q rest ih =>
    obtain ⟨hq, hrest⟩ := List.pairwise_cons.mp hl
    obtain ⟨hne, hnot⟩ := by simpa only [List.mem_cons, not_or] using hp
    by_cases hlt : p < q
    · refine ⟨[], q :: rest, rfl, by simp, fun r hr => ?_, by simp [insertPhase, hlt]⟩
      rcases List.mem_cons.mp hr with rfl | hr
      · exact hlt
      · exact hlt.trans (hq r hr)
    · obtain ⟨below, above, rfl, hbelow, habove, hins⟩ := ih hrest hnot
      refine ⟨q :: below, above, rfl, fun r hr => ?_, habove, by simp [insertPhase, hlt, hins]⟩
      rcases List.mem_cons.mp hr with rfl | hr
      · exact lt_of_le_of_ne (not_lt.mp hlt) (Ne.symm hne)
      · exact hbelow r hr

theorem insertPhase_ascending {p : Phase} {l : List Phase} (hl : l.Pairwise (· < ·)) (hp : p ∉ l) :
    (insertPhase p l).Pairwise (· < ·) := by
  obtain ⟨below, above, rfl, hbelow, habove, hins⟩ := insertPhase_split hl hp
  obtain ⟨hb, ha, hba⟩ := List.pairwise_append.mp hl
  rw [hins, List.pairwise_append, List.pairwise_cons]
  refine ⟨hb, ⟨habove, ha⟩, fun q hq r hr => ?_⟩
  rcases List.mem_cons.mp hr with rfl | hr
  · exact hbelow q hq
  · exact hba q hq r hr

theorem insertPhase_length (p : Phase) (l : List Phase) : (insertPhase p l).length = l.length + 1 := by
  induction l with
  | nil => rfl
  | cons q rest ih =>
    unfold insertPhase
    split <;> simp [ih]

end Sys2Proof.Machine

namespace Sys2Proof.Machine

/-! ## CRU, where an operation keeps it or empties it (R62, R66) -/

/-- R55, R62, R66: the claim register is IDLE, and no release is held or carried. -/
structure Cru.Idle (c : Cru) : Prop where
  claim : c.claim = none
  releases : c.releases = []
  releaseAll : c.releaseAll = false
  carried : c.carried = none

/-- CRU stands and the station has not left ACTIVE; or CRU is idle, as it is when the station leaves ACTIVE. -/
def CruKept (s t : State) : Prop :=
  (t.cru = s.cru ∧ (s.sync.state = .active → t.sync.state = .active)) ∨ t.cru.Idle

theorem CruKept.of_same {s t : State} (hc : t.cru = s.cru) (hs : t.sync.state = s.sync.state) : CruKept s t :=
  .inl ⟨hc, fun ha => hs.trans ha⟩

/-- Outside ACTIVE the station may enter any state. -/
theorem CruKept.of_not_active {s t : State} (hc : t.cru = s.cru) (hs : s.sync.state ≠ .active) : CruKept s t :=
  .inl ⟨hc, fun ha => absurd ha hs⟩

theorem CruKept.refl (s : State) : CruKept s s := .of_same rfl rfl

theorem CruKept.trans {s t u : State} (h : CruKept s t) (h' : CruKept t u) : CruKept s u := by
  rcases h' with ⟨hc', hs'⟩ | hidle
  · rcases h with ⟨hc, hs⟩ | hidle
    · exact .inl ⟨hc'.trans hc, fun ha => hs' (hs ha)⟩
    · exact .inr (hc' ▸ hidle)
  · exact .inr hidle

theorem ClaimsSound.idle {s : State} (h : ClaimsSound s) (hs : s.sync.state ≠ .active) : s.cru.Idle := by
  obtain ⟨hclaim, hreleases, hall, hcarried⟩ := h.onlyActive hs
  exact ⟨hclaim, hreleases, hall, hcarried⟩

theorem ClaimsSound.of_idle {s : State} (h : s.cru.Idle) : ClaimsSound s where
  onlyActive _ := ⟨h.claim, h.releases, h.releaseAll, h.carried⟩
  claim c hc := by rw [h.claim] at hc; cases hc
  atMost8 := by rw [h.releases]; exact Nat.zero_le 8
  sorted := by rw [h.releases]; exact .nil

theorem ClaimsSound.kept {s t : State} (h : ClaimsSound s) (hk : CruKept s t) : ClaimsSound t := by
  rcases hk with ⟨hc, hs⟩ | hidle
  · constructor
    · rw [hc]; exact fun ht => h.onlyActive fun ha => ht (hs ha)
    · rw [hc]; exact h.claim
    · rw [hc]; exact h.atMost8
    · rw [hc]; exact h.sorted
  · exact .of_idle hidle

/-- R62, R66: leaving ACTIVE empties CRU; in any other state it is left alone. -/
theorem CruKept.of_leaveActive {s t : State} (hc : t.cru = (leaveActive s).cru) : CruKept s t := by
  by_cases hs : s.sync.state = .active
  · rw [leaveActive_cru, if_pos hs] at hc
    exact .inr (by rw [hc]; exact ⟨rfl, rfl, rfl, rfl⟩)
  · rw [leaveActive_cru, if_neg hs] at hc
    exact .of_not_active hc hs

theorem cruKept_recordFault (k : FaultKind) (ctx : FaultCtx) (s : State) : CruKept s (recordFault k ctx s) :=
  .of_same (by simp) (by simp)

theorem cruKept_withdrawNow (s : State) : CruKept s (withdrawNow s) := .of_leaveActive (by simp)

theorem cruKept_fatal (k : FaultKind) (ctx : FaultCtx) (s : State) : CruKept s (fatal k ctx s) := by
  unfold fatal
  dsimp only
  split
  · exact (cruKept_recordFault k ctx s).trans (cruKept_withdrawNow _)
  · exact cruKept_recordFault k ctx s

theorem toRelearn_cru (s : State) : (toRelearn s).cru = (leaveActive s).cru := by
  unfold toRelearn
  dsimp only
  split <;> simp

theorem cruKept_degradeToRelearn (k : FaultKind) (ctx : FaultCtx) (s : State) :
    CruKept s (degradeToRelearn k ctx s) := by
  unfold degradeToRelearn
  dsimp only
  split
  · exact (cruKept_recordFault k ctx s).trans (.of_leaveActive (toRelearn_cru _))
  · exact cruKept_recordFault k ctx s

theorem cruKept_suspend (s : State) : CruKept s (suspend s) :=
  .of_same (by simp) (by rw [suspend_sync]; split <;> rfl)

/-! ## Markers (R81) -/

theorem cruKept_markerTiming (m : Marker) (o : Int) (restart : Bool) (s : State) :
    CruKept s (markerTiming m o restart s) := .of_same (by simp) (by rw [markerTiming_sync])

theorem cruKept_markerLearn (s : State) : CruKept s (markerLearn s) := by
  unfold markerLearn
  split
  · rename_i hs
    exact .of_not_active (by simp) (by simp [hs])
  · exact .refl s

theorem cruKept_learningFailure (s : State) : CruKept s (learningFailure s) := by
  have hcounted : CruKept s (s.withPtu { s.ptu with learnAttempts := s.ptu.learnAttempts + 1 }) := .of_same rfl rfl
  unfold learningFailure
  dsimp only
  split
  · exact hcounted.trans (.of_same (by simp) (by simp))
  · exact hcounted.trans (cruKept_fatal _ _ _)

/-- R29, R30, R82: a learning comparison is made outside ACTIVE. -/
theorem cruKept_markerCompare (m : Marker) (s : State) : CruKept s (markerCompare m s) := by
  unfold markerCompare
  split
  · split
    · exact .refl s
    · exact cruKept_degradeToRelearn _ _ s
  · rename_i hs
    (repeat' split)
    · exact .of_not_active (by simp) hs
    · exact cruKept_learningFailure s
    · exact .refl s

/-- R83: displacement from ACTIVE leaves it, as a withdraw does. -/
theorem cruKept_displacementTest (s : State) : CruKept s (displacementTest s) := by
  have hfault := cruKept_recordFault .displaced .none s
  unfold displacementTest
  dsimp only
  (repeat' split)
  · exact hfault.trans (cruKept_withdrawNow _)
  · exact hfault.trans (.of_leaveActive (by simp))
  · rename_i hs
    exact .of_not_active (by simp) hs
  · exact .refl s

theorem cruKept_adoptPresence (m : Marker) (s : State) : CruKept s (adoptPresence m s) :=
  .of_same (by simp) (by simp)

theorem cruKept_takeMarker (m : Marker) (o : Int) (restart : Bool) (s : State) :
    CruKept s (takeMarker m o restart s) := by
  have hcompared := ((cruKept_markerTiming m o restart s).trans (cruKept_markerLearn _)).trans
    (cruKept_markerCompare m _)
  unfold takeMarker
  dsimp only
  split
  · exact hcompared
  · exact ((hcompared.trans (cruKept_adoptPresence m _)).trans (cruKept_displacementTest _)).trans
      (.of_same (by simp) (by simp))

theorem cruKept_handleMarker (m : Marker) (o : Int) (s : State) : CruKept s (handleMarker m o s) := by
  have hdrop : CruKept s (dropHolder s) := .of_same (by simp) (by rw [dropHolder_sync])
  unfold handleMarker
  (repeat' split)
  · exact .refl s
  · exact cruKept_fatal _ _ s
  · exact cruKept_takeMarker _ _ _ s
  · exact hdrop.trans (cruKept_takeMarker _ _ _ _)
  · exact .refl s
  · exact cruKept_takeMarker _ _ _ s
  · exact cruKept_takeMarker _ _ _ s
  · exact .refl s

theorem cruKept_takeMarkerBytes (o : Int) (g : Bool) (b : List Byte) (s : State) :
    CruKept s (takeMarkerBytes o g b s) := by
  unfold takeMarkerBytes
  (repeat' split)
  · exact .refl s
  · exact cruKept_recordFault _ _ s
  · exact .refl s
  · exact cruKept_handleMarker _ _ s

theorem cruKept_markerSlotEnd {s t : State} (g : Bool) (ht : exec (.markerSlotEnd g) s = .next t) :
    CruKept s t := by
  have hlost : ∀ u, CruKept u (markerLost u) := by
    intro u
    unfold markerLost
    dsimp only
    split
    · exact .of_same (by simp) (by simp)
    · exact (CruKept.of_same (s := u) (by simp) (by simp)).trans (cruKept_suspend _)
  obtain rfl := next_inj ht
  dsimp only
  (repeat' split)
  · exact cruKept_recordFault _ _ s
  · exact .refl s
  · exact (CruKept.of_same (s := s) rfl rfl).trans (hlost _)
  · exact .of_same rfl rfl

/-- R11, R86. -/
theorem cruKept_ownMarkerReadBack {s t : State} (r : Reception) (ht : exec (.ownMarkerReadBack r) s = .next t) :
    CruKept s t := by
  obtain rfl := next_inj ht
  split
  · dsimp only
    (repeat' split)
    · exact .of_same rfl rfl
    · exact .of_same (by simp) (by simp)
    · exact (CruKept.of_same (s := s) (by simp) (by simp [dropHolder_sync])).trans (cruKept_suspend _)
  · exact .refl s

/-! ## Roll words and data frames -/

theorem cruKept_checkRollWord (k : Addr) (w : RollWord) (s : State) : CruKept s (checkRollWord k w s) := by
  unfold checkRollWord
  (repeat' split)
  · exact cruKept_recordFault _ _ s
  · exact cruKept_fatal _ _ s
  · exact cruKept_recordFault _ _ s
  · exact cruKept_recordFault _ _ s
  · exact .of_same (by simp) (by simp)

theorem cruKept_takeRollBytes (k : Addr) (g : Bool) (b : List Byte) (s : State) :
    CruKept s (takeRollBytes k g b s) := by
  have hhad : CruKept s (rollHad k s) := .of_same rfl rfl
  unfold takeRollBytes
  (repeat' split)
  · exact cruKept_recordFault _ _ s
  · exact .of_same (by simp) (by simp)
  · exact .refl s
  · exact hhad.trans (cruKept_recordFault _ _ _)
  · exact hhad.trans (cruKept_checkRollWord _ _ _)
  · exact .refl s

theorem cruKept_takeDataBytes (k : Phase) (g : Bool) (b : List Byte) (s : State) :
    CruKept s (takeDataBytes k g b s) := by
  unfold takeDataBytes
  (repeat' split) <;> exact .of_same (by simp) (by simp)

theorem cruKept_rollCollision (s : State) : CruKept s (rollCollision s) := by
  have hcounted : CruKept s (s.withRcm { s.rcm with ownCollisions := s.rcm.ownCollisions + 1 }) := .of_same rfl rfl
  unfold rollCollision
  dsimp only
  split
  · exact hcounted
  · exact hcounted.trans (cruKept_fatal _ _ _)

/-- R11, R39. -/
theorem cruKept_ownRollReadBack {s t : State} (r : Reception) (ht : exec (.ownRollReadBack r) s = .next t) :
    CruKept s t := by
  have hcut : CruKept s (rollHad s.own (cutTransmission s)) := .of_same rfl rfl
  obtain rfl := next_inj ht
  split
  · dsimp only
    (repeat' split)
    · exact hcut
    · exact .of_same rfl rfl
    · exact hcut.trans (cruKept_fatal _ _ _)
    · exact hcut.trans (cruKept_rollCollision _)
  · exact .refl s

theorem cruKept_phaseCollision (k : Phase) (s : State) : CruKept s (phaseCollision k s) := by
  have hfault := cruKept_recordFault .txCollision (.phase k) s
  unfold phaseCollision
  dsimp only
  (repeat' split)
  · exact hfault
  · exact .of_same (by simp) (by simp)
  · exact hfault.trans (cruKept_degradeToRelearn _ _ _)

theorem cruKept_readBackDone (k : Phase) (bcast : Option Cls) (ok : Bool) (s : State) :
    CruKept s (readBackDone k bcast ok s) := by
  cases bcast with
  | none => rw [readBackDone_none]; exact .of_same rfl rfl
  | some c => exact .of_same (by simp [readBackDone]) (by simp [readBackDone])

/-- R11, R111, R112. -/
theorem cruKept_ownDataReadBack {s t : State} (r : Reception) (ht : exec (.ownDataReadBack r) s = .next t) :
    CruKept s t := by
  by_cases htx : ∃ k c b, s.lif.tx = some { frame := .data k c, bytes := b }
  · obtain ⟨k, c, b, htx⟩ := htx
    rw [exec_ownDataReadBack htx] at ht
    obtain rfl := next_inj ht
    split
    · exact (cruKept_readBackDone k c true s).trans (.of_same (by simp) (by simp))
    · exact (cruKept_readBackDone k c false s).trans (cruKept_phaseCollision k _)
  · obtain rfl := next_inj ht
    split
    · exact absurd ⟨_, _, _, ‹_›⟩ htx
    · exact .refl s

/-! ## Cycle events and timers -/

/-- R14, R85, R89. -/
theorem cruKept_cycleStart {s t : State} (ht : exec .cycleStart s = .next t) : CruKept s t := by
  obtain rfl := next_inj ht
  dsimp only
  (repeat' split)
  · exact (CruKept.of_same (s := s) (by simp) (by simp)).trans (cruKept_suspend _)
  · exact .of_same (by simp) (by simp)
  · exact .of_same (by simp) (by simp)
  · exact .refl s

/-- R90, R92, R94: a listening station, and a suspended one that goes back to it, is not ACTIVE. -/
theorem cruKept_listenTimerExpiry {s t : State} (ht : exec .listenTimerExpiry s = .next t) : CruKept s t := by
  obtain rfl := next_inj ht
  (repeat' split)
  · exact .of_same rfl rfl
  · exact cruKept_withdrawNow s
  · rename_i hs _
    exact .of_not_active (by simp) (by rcases hs with hs | hs | hs <;> simp [hs])
  · exact .refl s
  · exact .refl s

/-- R91, R92: a founder comes from LISTENING, and a station that takes the timing stays ACTIVE. -/
theorem cruKept_takeoverTimerExpiry {s t : State} (ht : exec .takeoverTimerExpiry s = .next t) : CruKept s t := by
  obtain rfl := next_inj ht
  (repeat' split)
  · exact .inl ⟨by simp, fun _ => by simp [foundBus_sync]⟩
  · exact cruKept_withdrawNow s
  · exact .of_same (by simp) (by simp [takeTiming_sync])
  · exact .refl s
  · exact .refl s

theorem cruKept_lineFaultTimerExpiry {s t : State} (g : Bool) (ht : exec (.lineFaultTimerExpiry g) s = .next t) :
    CruKept s t := by
  have hstopped : CruKept s (s.withLif { s.lif with lineFaultTimer := .stopped }) := .of_same rfl rfl
  obtain rfl := next_inj ht
  (repeat' split)
  · exact cruKept_recordFault _ _ s
  · exact .refl s
  · exact hstopped.trans (cruKept_fatal _ _ _)
  · exact .refl s

end Sys2Proof.Machine

namespace Sys2Proof.Machine

/-! ## Resets, START and the host port -/

theorem cruIdle_reset : Cru.reset.Idle := ⟨rfl, rfl, rfl, rfl⟩

theorem StartSound.cruIdle {s : State} (h : StartSound s) (hs : s.cfg.step ≠ .done) : s.cru.Idle := by
  obtain ⟨-, -, -, -, hcru, -⟩ := h hs
  exact hcru ▸ cruIdle_reset

/-- The commands of START find CRU at its reset values and leave it there. -/
theorem cruKept_start {s t : State} {i : Instr} (hst : StartSound s)
    (hi : (∃ p n, i = .start p n) ∨ (∃ r, i = .readAttemptEnd r) ∨ (∃ n, i = .sclHoldTimeout n) ∨
      ∃ n, i = .retryWaitExpiry n) (ht : exec i s = .next t) : CruKept s t := by
  rcases hi with ⟨p, n, rfl⟩ | ⟨r, rfl⟩ | ⟨n, rfl⟩ | ⟨n, rfl⟩ <;> obtain rfl := next_inj ht <;> split
  · rename_i hs
    have hidle := hst.cruIdle (by rcases hs with hs | hs <;> simp [hs])
    dsimp only
    split <;> exact .inr (by simpa using hidle)
  · exact .refl s
  · rename_i hs
    have hidle := hst.cruIdle (by simp [hs])
    dsimp only
    (repeat' split) <;> exact .inr (by simpa using hidle)
  · exact .refl s
  · rename_i hs
    have hidle := hst.cruIdle (by simp [hs])
    exact .inr (by simpa using hidle)
  · exact .refl s
  · rename_i hs
    have hidle := hst.cruIdle (by simp [hs])
    exact .inr (by simpa using hidle)
  · exact .refl s

/-- R172: a request keeps or empties CRU where its rule does. -/
theorem cruKept_takeRequest {s : State} (code : Byte) (ok : Bool) (args : List Byte) {rule : State → Result}
    (hr : CruKept s (rule s).state) : CruKept s (takeRequest code ok args rule s) := by
  rcases takeRequest_cases code ok args rule s with he | ⟨st, he⟩ | ⟨-, he⟩ <;> rw [he]
  · exact .refl s
  · exact .of_same rfl rfl
  · exact hr.trans (.of_same rfl rfl)

/-- R93: JOIN is accepted outside ACTIVE. -/
theorem cruKept_join {s t : State} (args : List Byte) (ht : exec (.join args) s = .next t) : CruKept s t := by
  obtain rfl := next_inj ht
  refine cruKept_takeRequest _ _ _ ?_
  split
  · rename_i hs
    exact .of_not_active (by simp [accept]) (by rcases hs with hs | hs <;> simp [hs])
  · exact .refl s

theorem cruKept_withdraw {s t : State} (args : List Byte) (ht : exec (.withdraw args) s = .next t) :
    CruKept s t := by
  obtain rfl := next_inj ht
  refine cruKept_takeRequest _ _ _ ?_
  unfold withdrawRule
  split
  case h_1 | h_2 => exact .of_same rfl rfl
  case h_4 | h_5 => exact cruKept_withdrawNow s
  all_goals exact .refl s

theorem cruKept_transactionEnd {s t : State} (n : Nat) (ht : exec (.transactionEnd n) s = .next t) :
    CruKept s t := by
  obtain rfl := next_inj ht
  (repeat' split)
  · exact .refl s
  · exact .inr cruIdle_reset
  · exact .of_same (by simp) (by simp)
  · exact .of_same rfl rfl

/-- The requests whose own rule writes CRU. -/
def writesCru : Instr → Bool
  | .claim _ | .claimAt _ | .release _ | .releaseAll _ => true
  | _ => false

/-- The other commands of the host port that reach neither the line nor the sync state leave CRU alone. -/
theorem exec_portOnly_cru {i : Instr} {s t : State} (hi : portOnly i = true) (hw : writesCru i = false)
    (ht : exec i s = .next t) : t.cru = s.cru := by
  cases i with
  | transactionBegin _ | badRequest _ _ | popRxCommit | popDoneCommit =>
    obtain rfl := next_inj ht
    (repeat' split) <;> simp
  | status _ | readFaults _ | clearFaults _ | readEvents _ | applyPattern _ | softReset _ | readConfig _ =>
    obtain rfl := next_inj ht
    exact takeRequest_keeps State.cru (fun _ _ => rfl) _ _ _ _ _ rfl
  | popRx _ | popDone _ =>
    obtain rfl := next_inj ht
    apply takeRequest_keeps State.cru (fun _ _ => rfl)
    split <;> rfl
  | push _ | readTable _ | ackEvents _ | setEnables _ | stagePattern _ =>
    obtain rfl := next_inj ht
    apply takeRequest_keeps State.cru (fun _ _ => rfl)
    dsimp only [pushRule, readTableRule, ackEventsRule, setEnablesRule, stagePatternRule]
    (repeat' split) <;> rfl
  | claim _ | claimAt _ | release _ | releaseAll _ => cases hw
  | _ => cases hi

end Sys2Proof.Machine

namespace Sys2Proof.Machine

/-! ## Claims and releases of an ACTIVE station (R56, R57, R59, R63, R64) -/

/-- In ACTIVE nothing but the bounds counts. -/
theorem ClaimsSound.of_active {t : State} (hs : t.sync.state = .active)
    (hclaim : ∀ c, t.cru.claim = some c → 1 ≤ c.requested ∧ c.requested ≤ 8 ∧ c.attempts ≤ 4)
    (hlen : t.cru.releases.length ≤ 8) (hsorted : t.cru.releases.Pairwise (· < ·)) : ClaimsSound t :=
  ⟨fun hn => absurd hs hn, hclaim, hlen, hsorted⟩

/-- R172: a request keeps claims and releases sound where its rule does. -/
theorem claimsSound_takeRequest {s : State} (h : ClaimsSound s) (code : Byte) (ok : Bool) (args : List Byte)
    {rule : State → Result} (hr : ClaimsSound (rule s).state) : ClaimsSound (takeRequest code ok args rule s) := by
  rcases takeRequest_cases code ok args rule s with he | ⟨st, he⟩ | ⟨-, he⟩ <;> rw [he]
  · exact h
  · exact h.kept (.of_same rfl rfl)
  · exact hr.kept (.of_same rfl rfl)

/-- R56: CLAIM asks for 1 to 8 phases. -/
theorem claimsSound_claimRule {s : State} (h : ClaimsSound s) (b : Byte) : ClaimsSound (claimRule b s).state := by
  unfold claimRule
  split
  · exact h
  rename_i ha
  split
  · exact h
  rename_i hb
  (repeat' split)
  · exact h
  · exact h
  · refine .of_active (not_not.mp ha) (fun c hc => ?_) h.atMost8 h.sorted
    obtain rfl := Option.some.inj hc
    dsimp only
    omega

/-- R57: CLAIM_AT asks for one. -/
theorem claimsSound_claimAtRule {s : State} (h : ClaimsSound s) (b : Byte) : ClaimsSound (claimAtRule b s).state := by
  unfold claimAtRule
  split
  · exact h
  rename_i ha
  (repeat' split)
  · exact h
  · exact h
  · exact h
  · exact h
  · refine .of_active (not_not.mp ha) (fun c hc => ?_) h.atMost8 h.sorted
    obtain rfl := Option.some.inj hc
    simp

/-- R63: RELEASE adds one phase, in its place, to a list with room. -/
theorem claimsSound_releaseRule {s : State} (h : ClaimsSound s) (b : Byte) : ClaimsSound (releaseRule b s).state := by
  unfold releaseRule
  split
  · exact h
  rename_i ha
  split
  · exact h
  split
  · exact h
  split
  · exact h
  rename_i hp
  split
  · exact h
  rename_i hroom
  refine .of_active (not_not.mp ha) h.claim ?_ (insertPhase_ascending h.sorted hp)
  have hlen : s.cru.releases.length < 8 := not_le.mp hroom
  simp only [accept, State.withCru_cru, insertPhase_length]
  omega

theorem claimsSound_releaseAll {s t : State} (h : ClaimsSound s) (args : List Byte)
    (ht : exec (.releaseAll args) s = .next t) : ClaimsSound t := by
  obtain rfl := next_inj ht
  refine claimsSound_takeRequest h _ _ _ ?_
  split
  · exact h
  · rename_i ha
    exact .of_active (not_not.mp ha) h.claim h.atMost8 h.sorted

/-- R59: a normal roll word counts an attempt, up to 4. -/
theorem claimsSound_sendNormal {s : State} (h : ClaimsSound s) (ha : s.sync.state = .active) :
    ClaimsSound (sendNormal s) := by
  rw [sendNormal_eq]
  refine .of_active ha (fun c hc => ?_) h.atMost8 h.sorted
  obtain ⟨d, hd, rfl⟩ := Option.map_eq_some_iff.mp hc
  obtain ⟨hlow, hhigh, -⟩ := h.claim d hd
  exact ⟨hlow, hhigh, Nat.min_le_left _ _⟩

/-- R35: of the roll words a normal one alone writes CRU. -/
theorem claimsSound_ownRollSlot {s t : State} (h : ClaimsSound s) (ht : exec .ownRollSlot s = .next t) :
    ClaimsSound t := by
  obtain rfl := next_inj ht
  split
  · split
    · exact h.kept (.of_same rfl rfl)
    · rename_i ha
      split
      · exact h.kept (.of_same rfl rfl)
      · exact claimsSound_sendNormal h ha
    · split <;> exact h.kept (.of_same rfl rfl)
    all_goals exact h
  · exact h

end Sys2Proof.Machine

namespace Sys2Proof.Machine

/-! ## CRU at a close (R60, R61, R65, R74) -/

/-- R69 to R73: the station behind the first five stages. -/
def closeTabled (s : State) : State :=
  (membershipStage s).withPtu
    { (membershipStage s).ptu with table := closedTable s, digest := digestOf (closedTable s) }

/-- R61, R71: the phases that the close at `s` gives the station, ascending. -/
def ownGrants (s : State) : List Phase :=
  grantsTo (closeTabled s).own (releaseStage (membershipStage s).rcm (membershipStage s).ptu.table)
    (claimStage (membershipStage s).rcm s.ptu.table
      (releaseStage (membershipStage s).rcm (membershipStage s).ptu.table))

/-- R74: the station behind its own outcomes, before a joiner becomes ACTIVE. -/
def closeSettled (s : State) : State := evaluateClaim (ownGrants s) (applyCarried (closeTabled s))

theorem close_eq (s : State) :
    close s = if joinDecided s then enter .active (closeSettled s) else closeSettled s := rfl

theorem cruKept_closeTabled (s : State) : CruKept s (closeTabled s) :=
  .of_same (by simp [closeTabled]) (by simp [closeTabled, membershipStage_state])

/-- R65: carried releases of a roll word in the record are applied. -/
theorem applyCarried_applied {s : State} {c : Carried} {w : RollWord} (hc : s.cru.carried = some c)
    (hw : s.rcm.record[s.own] = some w) (hne : c.phases ≠ [] ∨ c.all = true) :
    applyCarried s = post .releaseEnd (s.withCru { s.cru with
      carried := none
      releases := s.cru.releases.filter (fun p => p ∉ c.phases)
      releaseAll := s.cru.releaseAll && !c.all
      lastRelease := some .applied }) := by
  have hcarries : ¬(c.phases.isEmpty && !c.all) = true := by
    rcases hne with hp | ha
    · simp [hp]
    · simp [ha]
  unfold applyCarried
  simp only [hc, hw, hcarries]
  rfl

/-- R65: where no release is carried, or the own roll word is not in the record, the carried record alone goes. -/
theorem applyCarried_nothing {s : State} (h : s.cru.carried = none ∨ s.rcm.record[s.own] = none ∨
    s.cru.carried = some { phases := [], all := false }) :
    applyCarried s = s.withCru { s.cru with carried := none } := by
  unfold applyCarried
  rcases h with h | h | h
  · simp [h]
  · cases hc : s.cru.carried <;> simp [h]
  · cases hw : s.rcm.record[s.own] <;> simp [h]

/-- R65: one of the two. -/
theorem applyCarried_cases (s : State) :
    (∃ c w, s.cru.carried = some c ∧ s.rcm.record[s.own] = some w ∧ (c.phases ≠ [] ∨ c.all = true)) ∨
      (s.cru.carried = none ∨ s.rcm.record[s.own] = none ∨
        s.cru.carried = some { phases := [], all := false }) := by
  cases hc : s.cru.carried with
  | none => exact .inr (.inl rfl)
  | some c =>
    cases hw : s.rcm.record[s.own] with
    | none => exact .inr (.inr (.inl rfl))
    | some w =>
      by_cases hne : c.phases ≠ [] ∨ c.all = true
      · exact .inl ⟨c, w, rfl, rfl, hne⟩
      · obtain ⟨phases, all⟩ := c
        simp only [not_or, not_not, Bool.not_eq_true] at hne
        obtain ⟨rfl, rfl⟩ := hne
        exact .inr (.inr (.inr rfl))

/-- R60, R61: a claim that the close ends. -/
theorem evaluateClaim_ends {g : List Phase} {s : State} {c : Claim} {o : ClaimOutcome} (hc : s.cru.claim = some c)
    (ho : claimOutcome { c with granted := c.granted ++ g } s.own s.ptu.table = some o) :
    evaluateClaim g s = endClaim o { c with granted := c.granted ++ g } s := by
  simp only [evaluateClaim, hc, ho]

/-- R60, R61: a claim that stays PENDING. -/
theorem evaluateClaim_stays {g : List Phase} {s : State} {c : Claim} (hc : s.cru.claim = some c)
    (ho : claimOutcome { c with granted := c.granted ++ g } s.own s.ptu.table = none) :
    evaluateClaim g s = s.withCru { s.cru with claim := some { c with granted := c.granted ++ g } } := by
  simp only [evaluateClaim, hc, ho]

/-- R60: the evaluation writes the claim register and the last outcome alone. -/
theorem evaluateClaim_cru (g : List Phase) (s : State) : (evaluateClaim g s).cru = { s.cru with
    claim := (evaluateClaim g s).cru.claim, lastClaim := (evaluateClaim g s).cru.lastClaim } := by
  unfold evaluateClaim
  split
  · rfl
  · dsimp only
    split
    · simp [endClaim]
    · rfl

/-- R60, R61: a claim that the evaluation leaves differs from the one it found in the granted list alone. -/
theorem evaluateClaim_claim {g : List Phase} {s : State} {d : Claim} (h : (evaluateClaim g s).cru.claim = some d) :
    ∃ c, s.cru.claim = some c ∧ d = { c with granted := c.granted ++ g } := by
  cases hc : s.cru.claim with
  | none => simp [evaluateClaim, hc] at h
  | some c =>
    cases ho : claimOutcome { c with granted := c.granted ++ g } s.own s.ptu.table with
    | none =>
      rw [evaluateClaim_stays hc ho] at h
      exact ⟨c, rfl, (Option.some.inj h).symm⟩
    | some o =>
      rw [evaluateClaim_ends hc ho] at h
      simp [endClaim] at h

/-- R65: what is left of an ascending list is ascending, and the carried record is none. -/
theorem claimsSound_applyCarried {s : State} (h : ClaimsSound s) : ClaimsSound (applyCarried s) := by
  rcases applyCarried_cases s with ⟨c, w, hc, hw, hne⟩ | hnothing
  · rw [applyCarried_applied hc hw hne]
    have ha : s.sync.state = .active := by
      by_contra hs
      rw [(h.idle hs).carried] at hc
      cases hc
    exact .of_active ha h.claim ((List.length_filter_le _ _).trans h.atMost8) (h.sorted.filter _)
  · rw [applyCarried_nothing hnothing]
    refine ⟨fun hs => ?_, h.claim, h.atMost8, h.sorted⟩
    obtain ⟨hclaim, hreleases, hall, -⟩ := h.idle hs
    exact ⟨hclaim, hreleases, hall, rfl⟩

theorem claimsSound_evaluateClaim {s : State} (h : ClaimsSound s) (g : List Phase) :
    ClaimsSound (evaluateClaim g s) := by
  constructor
  · intro hs
    have hidle := h.idle (by simpa using hs)
    simpa [evaluateClaim, hidle.claim] using h.onlyActive (by simpa using hs)
  · intro d hd
    obtain ⟨c, hc, rfl⟩ := evaluateClaim_claim hd
    exact h.claim c hc
  · rw [evaluateClaim_cru]; exact h.atMost8
  · rw [evaluateClaim_cru]; exact h.sorted

theorem claimsSound_close {s : State} (h : ClaimsSound s) : ClaimsSound (close s) := by
  have hsettled : ClaimsSound (closeSettled s) :=
    claimsSound_evaluateClaim (claimsSound_applyCarried (h.kept (cruKept_closeTabled s))) _
  rw [close_eq]
  split
  · exact hsettled.kept (.inl ⟨by simp, fun _ => rfl⟩)
  · exact hsettled

/-- Every command keeps claims and releases sound. -/
theorem exec_claimsSound (i : Instr) (s t : State) (hst : StartSound s) (h : ClaimsSound s)
    (ht : exec i s = .next t) : ClaimsSound t := by
  have hrx : ∀ b, CruKept s (s.withLif { s.lif with rx := b }) := fun _ => .of_same rfl rfl
  cases i with
  | powerOnReset | pinReset => obtain rfl := next_inj ht; exact .of_idle cruIdle_reset
  | start p n => exact h.kept (cruKept_start hst (.inl ⟨p, n, rfl⟩) ht)
  | readAttemptEnd r => exact h.kept (cruKept_start hst (.inr (.inl ⟨r, rfl⟩)) ht)
  | sclHoldTimeout n => exact h.kept (cruKept_start hst (.inr (.inr (.inl ⟨n, rfl⟩))) ht)
  | retryWaitExpiry n => exact h.kept (cruKept_start hst (.inr (.inr (.inr ⟨n, rfl⟩))) ht)
  | transactionEnd n => exact h.kept (cruKept_transactionEnd n ht)
  | join args => exact h.kept (cruKept_join args ht)
  | withdraw args => exact h.kept (cruKept_withdraw args ht)
  | claim args => obtain rfl := next_inj ht; exact claimsSound_takeRequest h _ _ _ (claimsSound_claimRule h _)
  | claimAt args => obtain rfl := next_inj ht; exact claimsSound_takeRequest h _ _ _ (claimsSound_claimAtRule h _)
  | release args => obtain rfl := next_inj ht; exact claimsSound_takeRequest h _ _ _ (claimsSound_releaseRule h _)
  | releaseAll args => exact claimsSound_releaseAll h args ht
  | markerReceived b o p g =>
    obtain rfl := next_inj ht
    exact h.kept (hear_leads (.refl s) (fun _ => hrx _) (fun _ => cruKept_takeMarkerBytes o g _ s)
      (fun _ => (hrx none).trans (cruKept_takeMarkerBytes o g _ _)))
  | markerSlotEnd g => exact h.kept (cruKept_markerSlotEnd g ht)
  | rollWordReceived k b p g =>
    obtain rfl := next_inj ht
    exact h.kept (hear_leads (.refl s) (fun _ => hrx _) (fun _ => cruKept_takeRollBytes k g _ s)
      (fun _ => (hrx none).trans (cruKept_takeRollBytes k g _ _)))
  | dataFrameReceived k b p g =>
    obtain rfl := next_inj ht
    exact h.kept (hear_leads (.refl s) (fun _ => hrx _) (fun _ => cruKept_takeDataBytes k g _ s)
      (fun _ => (hrx none).trans (cruKept_takeDataBytes k g _ _)))
  | rollSlotDamaged k g | dataPhaseDamaged k g =>
    obtain rfl := next_inj ht
    dsimp only
    (repeat' split) <;> exact h.kept (.of_same (by simp) (by simp))
  | ownMarkerReadBack r => exact h.kept (cruKept_ownMarkerReadBack r ht)
  | ownRollReadBack r => exact h.kept (cruKept_ownRollReadBack r ht)
  | ownDataReadBack r => exact h.kept (cruKept_ownDataReadBack r ht)
  | cycleStart => exact h.kept (cruKept_cycleStart ht)
  | ownRollSlot => exact claimsSound_ownRollSlot h ht
  | leaveSlotEnd =>
    obtain rfl := next_inj ht
    split
    · exact h.kept (cruKept_withdrawNow s)
    · exact h
  | rollCallClose =>
    obtain rfl := next_inj ht
    split
    · exact claimsSound_close h
    · exact h
  | dataPhase k =>
    obtain rfl := next_inj ht
    split
    · exact h.kept (.of_same (by simp) (by simp))
    · exact h
  | listenTimerExpiry => exact h.kept (cruKept_listenTimerExpiry ht)
  | takeoverTimerExpiry => exact h.kept (cruKept_takeoverTimerExpiry ht)
  | lineFaultTimerExpiry g => exact h.kept (cruKept_lineFaultTimerExpiry g ht)
  | _ => exact h.kept (.of_same (exec_portOnly_cru rfl rfl ht) (by rw [(exec_sameLine rfl ht).sync]))

/-- Settles O56: each command keeps CRU, empties it, or writes it in ACTIVE within its bounds. -/
theorem claimsAndReleasesStaySound : Obligations.ClaimsAndReleasesStaySound := by
  intro s t hst h
  refine step_leads (P := fun s => StartSound s ∧ ClaimsSound s) (fun _ hs => hs.2) (fun _ _ hs => ?_)
    (fun _ _ hs => ?_) (fun i s t hs => exec_claimsSound i s t hs.1 hs.2) s t ⟨hst, h⟩
  · exact ⟨hs.1, hs.2.kept (.of_same rfl rfl)⟩
  · exact ⟨hs.1, hs.2.kept (.of_same rfl rfl)⟩

end Sys2Proof.Machine

namespace Sys2Proof.Machine

/-! ## CLAIM and RELEASE_ALL (R55, R56, R64) -/

/-- R172: a CLAIM that passes the checks is answered by its own rule. -/
theorem claim_answered {n : Byte} {s : State} (hr : s.hp.tx = .request) (hs : s.sync.state ≠ .start) :
    exec (.claim [n]) s =
      .next (replied 0x05#8 [n] (claimRule n s).status (claimRule n s).data (claimRule n s).state) :=
  congrArg _ (takeRequest_by_rule 0x05#8 [n] (claimRule n) s hr (.inl hs))

/-- R172: so is a RELEASE_ALL. -/
theorem releaseAll_answered {s : State} (hr : s.hp.tx = .request) (hs : s.sync.state ≠ .start) :
    exec (.releaseAll []) s = .next (if s.sync.state ≠ .active then replied 0x08#8 [] .notActive [] s
      else { replied 0x08#8 [] .ok [] s with cru := { s.cru with releaseAll := true } }) := by
  refine congrArg _ ((takeRequest_by_rule 0x08#8 [] _ s hr (.inl hs)).trans ?_)
  split <;> rfl

/-- Settles O15, by the checks of the two rules. -/
theorem claimAndReleaseAll : Obligations.ClaimAndReleaseAll := by
  refine ⟨fun n s hr hs => ?_, fun s hr => ⟨fun hs ha => ?_, fun ha => ?_⟩⟩
  · rw [claim_answered hr hs]
    unfold claimRule ownedCount
    simp only [Nat.lt_one_iff, Option.isSome_iff_ne_none]
    (repeat' split) <;> rfl
  · rw [releaseAll_answered hr hs, if_pos ha]
  · rw [releaseAll_answered hr (by simp [ha]), if_neg (not_not.mpr ha)]

/-! ## CLAIM_AT and RELEASE (R57, R63) -/

theorem phaseOf_eq_none {b : Byte} (h : 96 ≤ b.toNat) : phaseOf b = none := dif_neg (by omega)

/-- R172: a CLAIM_AT that passes the checks is answered by its own rule. -/
theorem claimAt_answered {b : Byte} {s : State} (hr : s.hp.tx = .request) (hs : s.sync.state ≠ .start) :
    exec (.claimAt [b]) s =
      .next (replied 0x06#8 [b] (claimAtRule b s).status (claimAtRule b s).data (claimAtRule b s).state) :=
  congrArg _ (takeRequest_by_rule 0x06#8 [b] (claimAtRule b) s hr (.inl hs))

/-- Settles O16, row by row. -/
theorem claimAtIsCheckedInOrder : Obligations.ClaimAtIsCheckedInOrder := by
  refine ⟨fun b s hr hs => ?_, fun b s hr hs ha => ?_, fun b s hr ha hb => ?_, fun p s hr ha => ?_⟩
  · exact congrArg _ (takeRequest_starting 0x06#8 true [b] (claimAtRule b) s hr hs (by decide))
  · have hrule : claimAtRule b s = refuse s .notActive := if_pos ha
    rw [claimAt_answered hr hs, hrule]
    rfl
  · have hrule : claimAtRule b s = refuse s .badArg := by simp [claimAtRule, ha, phaseOf_eq_none hb]
    rw [claimAt_answered hr (by simp [ha]), hrule]
    rfl
  · rw [claimAt_answered hr (by simp [ha])]
    unfold claimAtRule ownedCount
    simp only [ha, ne_eq, not_true_eq_false, if_false, phaseOf_finByte, Option.isSome_iff_ne_none]
    (repeat' split) <;> rfl

/-- R172: a RELEASE that passes the checks is answered by its own rule. -/
theorem release_answered {b : Byte} {s : State} (hr : s.hp.tx = .request) (hs : s.sync.state ≠ .start) :
    exec (.release [b]) s =
      .next (replied 0x07#8 [b] (releaseRule b s).status (releaseRule b s).data (releaseRule b s).state) :=
  congrArg _ (takeRequest_by_rule 0x07#8 [b] (releaseRule b) s hr (.inl hs))

/-- R63: the rows of RELEASE in ACTIVE for a phase, in their order. -/
theorem releaseRule_phase {s : State} (p : Phase) (ha : s.sync.state = .active) : releaseRule (finByte p) s =
    if s.ptu.table[p] ≠ .owned s.own then refuse s .notOwner
    else if p ∈ s.cru.releases then accept s
    else if 8 ≤ s.cru.releases.length then refuse s .busy
    else accept (s.withCru { s.cru with releases := insertPhase p s.cru.releases }) := by
  unfold releaseRule
  rw [if_neg (not_not.mpr ha), phaseOf_finByte]
  rfl

/-- Settles O17, row by row; the place of a new phase is that of `insertPhase_split`. -/
theorem releaseIsCheckedInOrder : Obligations.ReleaseIsCheckedInOrder := by
  refine ⟨fun b s hr hs => ?_, fun b s hr hs ha => ?_, fun b s hr ha hb => ?_, fun p s hr ha => ?_⟩
  · exact congrArg _ (takeRequest_starting 0x07#8 true [b] (releaseRule b) s hr hs (by decide))
  · have hrule : releaseRule b s = refuse s .notActive := if_pos ha
    rw [release_answered hr hs, hrule]
    rfl
  · have hrule : releaseRule b s = refuse s .badArg := by simp [releaseRule, ha, phaseOf_eq_none hb]
    rw [release_answered hr (by simp [ha]), hrule]
    rfl
  · rw [release_answered hr (by simp [ha]), releaseRule_phase p ha]
    refine ⟨fun ho => ?_, fun ho hp => ?_, fun ho hp hfull => ?_, fun ho hp hroom hsorted => ?_⟩
    · rw [if_pos ho]
      rfl
    · rw [if_neg (not_not.mpr ho), if_pos hp]
      rfl
    · rw [if_neg (not_not.mpr ho), if_neg hp, if_pos hfull]
      rfl
    · obtain ⟨below, above, hsplit, hbelow, habove, hins⟩ := insertPhase_split hsorted hp
      refine ⟨below, above, hsplit, hbelow, habove, ?_⟩
      rw [if_neg (not_not.mpr ho), if_neg hp, if_neg (not_le.mpr hroom), hins]
      rfl

end Sys2Proof.Machine

namespace Sys2Proof.Machine

/-! ## The table at a close, entry by entry (R51, R70 to R72) -/

theorem rollCallClose_eq {s : State} (ht : s.slotTiming = true) : exec .rollCallClose s = .next (close s) := by
  simp [exec, execRollCallClose, ht]

theorem getElem_coolOwner (a : Addr) (t : Vector Entry 96) (k : Phase) :
    (coolOwner a t)[k] = if t[k] = .owned a then .cooling2 else t[k] := getElem_fin_tab _ k

theorem closeAddress_table (s u : State) (a : Addr) : (closeAddress s u a).ptu.table =
    if departs s a then coolOwner a u.ptu.table else u.ptu.table := by
  unfold closeAddress departFor departs
  cases departureAt s a <;> split <;> simp [departAtClose_ptu]

/-- R51: the entries of every address that departs cool. -/
theorem foldl_coolOwner (p : Addr → Bool) (l : List Addr) (t : Vector Entry 96) (k : Phase) :
    (l.foldl (fun t a => if p a then coolOwner a t else t) t)[k] =
      if ∃ a ∈ l, p a = true ∧ t[k] = .owned a then .cooling2 else t[k] := by
  induction l generalizing t with
  | nil => simp
  | cons a l ih =>
    rw [List.foldl_cons, ih]
    by_cases hp : p a = true
    · rw [if_pos hp, getElem_coolOwner]
      by_cases ho : t[k] = .owned a
      · simp only [if_pos ho]
        simp [hp, ho]
      · simp only [List.exists_mem_cons_iff, ho, and_false, false_or, if_false]
    · simp [hp]

/-- R51, R69: the table behind stage 1. -/
theorem membershipStage_table (s : State) (k : Phase) : (membershipStage s).ptu.table[k] =
    if ∃ a, departs s a = true ∧ s.ptu.table[k] = .owned a then .cooling2 else s.ptu.table[k] := by
  rw [membershipStage_eq, State.withRcm_ptu,
    closeDecided_part (fun u => u.ptu.table) (fun t a => if departs s a then coolOwner a t else t)
      fun u a _ => closeAddress_table s u a, foldl_coolOwner]
  simp

/-- R70, R71: a roll word counts in stages 2 and 3 where its sender is present behind stage 1. -/
theorem presentWord_eq (s : State) (a : Addr) :
    presentWord (membershipStage s).rcm a = countedWord s (close s) a := by
  have hrecord : (membershipStage s).rcm.record = s.rcm.record := by
    rw [membershipStage_eq]
    exact (closeDecided_rcm s).1
  unfold presentWord countedWord Rcm.present
  rw [close_rcm, hrecord]
  cases (membershipStage s).rcm.presence[a] <;> simp

/-- R71: the roll word of `a`, present behind stage 1, claims the phase. -/
def claimantAt (r : Rcm) (k : Phase) (a : Addr) : Bool := (presentWord r a).any fun w => w.claimsPhase k

theorem claimantAt_iff (s : State) (k : Phase) (a : Addr) :
    claimantAt (membershipStage s).rcm k a = true ↔ claimsAt s (close s) k a := by
  simp [claimantAt, presentWord_eq, claimsAt, RollWord.claimsPhase, Option.any_eq_true]

theorem lowestClaimant_eq (r : Rcm) (k : Phase) :
    lowestClaimant r k = (List.finRange 32).find? (claimantAt r k) := by
  refine congrArg (List.find? · (List.finRange 32)) (funext fun a => ?_)
  unfold claimantAt
  cases presentWord r a <;> rfl

/-- R71: no address claims the phase, or one does and no lower one. -/
theorem lowestClaimant_cases (r : Rcm) (k : Phase) :
    (lowestClaimant r k = none ∧ ∀ a, claimantAt r k a = false) ∨
      ∃ a, lowestClaimant r k = some a ∧ claimantAt r k a = true ∧ ∀ b, b < a → claimantAt r k b = false := by
  rw [lowestClaimant_eq]
  cases hfind : (List.finRange 32).find? (claimantAt r k) with
  | none => exact .inl ⟨rfl, fun a => by simpa using List.find?_eq_none.mp hfind a (List.mem_finRange a)⟩
  | some a =>
    obtain ⟨hclaims, before, after, hsplit, hnot⟩ := List.find?_eq_some_iff_append.mp hfind
    refine .inr ⟨a, rfl, hclaims, fun b hb => ?_⟩
    have hmem : b ∈ before ++ a :: after := hsplit ▸ List.mem_finRange b
    obtain ⟨-, hafter, -⟩ := List.pairwise_append.mp (hsplit ▸ ascending_finRange)
    rcases List.mem_append.mp hmem with hbefore | hrest
    · simpa using hnot b hbefore
    · rcases List.mem_cons.mp hrest with rfl | hbehind
      · exact absurd hb (lt_irrefl b)
      · exact absurd (hb.trans ((List.pairwise_cons.mp hafter).1 b hbehind)) (lt_irrefl b)

/-- R70: an entry that is not OWNED passes stage 2. -/
theorem releaseEntry_of_not_owned {r : Rcm} {k : Phase} {e : Entry} (h : ∀ a, e ≠ .owned a) :
    releaseEntry r k e = e := by
  cases e with
  | owned a => exact absurd rfl (h a)
  | _ => rfl

/-- R71: an entry that was not VACANT passes stage 3. -/
theorem claimEntry_of_not_vacant {r : Rcm} {k : Phase} {began : Entry} (h : began ≠ .vacant) (e : Entry) :
    claimEntry r k began e = e := if_neg fun hv => h hv.1

/-- R72: an OWNED entry passes stage 4. -/
theorem coolEntry_owned (a : Addr) (e : Entry) : coolEntry (.owned a) e = e := rfl

/-- R69 to R72: an entry behind the close, stage by stage. -/
theorem close_table (s : State) (k : Phase) : (close s).ptu.table[k] = coolEntry s.ptu.table[k]
    (claimEntry (membershipStage s).rcm k s.ptu.table[k]
      (releaseEntry (membershipStage s).rcm k (membershipStage s).ptu.table[k])) := by
  rw [close_ptu]
  simp only [closedTable, coolingStage, claimStage, releaseStage, getElem_fin_tab]

/-- R51: stage 1 leaves an entry that is not OWNED alone, and so does stage 2. -/
theorem releasedEntry_of_not_owned {s : State} {k : Phase} (h : ∀ a, s.ptu.table[k] ≠ .owned a) :
    releaseEntry (membershipStage s).rcm k (membershipStage s).ptu.table[k] = s.ptu.table[k] := by
  have hstands : ¬∃ a, departs s a = true ∧ s.ptu.table[k] = .owned a := fun ⟨a, _, ha⟩ => h a ha
  rw [membershipStage_table, if_neg hstands, releaseEntry_of_not_owned h]

/-- R71: a VACANT entry goes to its lowest present claimant. -/
theorem close_vacant {s : State} {k : Phase} (h : s.ptu.table[k] = .vacant) : (close s).ptu.table[k] =
    ((lowestClaimant (membershipStage s).rcm k).map Entry.owned).getD .vacant := by
  rw [close_table, releasedEntry_of_not_owned (by simp [h]), h]
  simp only [claimEntry, coolEntry, and_self, if_true]
  cases lowestClaimant (membershipStage s).rcm k <;> rfl

/-- R72: a COOLING entry counts down, and an UNKNOWN one stands. -/
theorem close_unowned {s : State} {k : Phase} (hv : s.ptu.table[k] ≠ .vacant) (ho : ∀ a, s.ptu.table[k] ≠ .owned a) :
    (close s).ptu.table[k] = coolEntry s.ptu.table[k] s.ptu.table[k] := by
  rw [close_table, claimEntry_of_not_vacant hv, releasedEntry_of_not_owned ho]

/-- R70: the owner, present behind stage 1, releases the phase. -/
def releasesAt (s t : State) (k : Phase) (a : Addr) : Prop :=
  ∃ w, countedWord s t a = some w ∧ (w.releaseAll = true ∨ finByte k ∈ w.releases)

/-- R70: stage 2 on an OWNED entry. -/
theorem releaseEntry_owned (s : State) (k : Phase) (a : Addr) :
    releaseEntry (membershipStage s).rcm k (.owned a) = .cooling2 ∧ releasesAt s (close s) k a ∨
      releaseEntry (membershipStage s).rcm k (.owned a) = .owned a ∧ ¬releasesAt s (close s) k a := by
  unfold releasesAt releaseEntry
  simp only [presentWord_eq]
  cases countedWord s (close s) a with
  | none => exact .inr ⟨rfl, by simp⟩
  | some w =>
    by_cases hw : w.releasesPhase k = true
    · exact .inl ⟨if_pos hw, w, rfl, by simpa [RollWord.releasesPhase] using hw⟩
    · refine .inr ⟨if_neg hw, fun ⟨v, hv, hrel⟩ => hw ?_⟩
      obtain rfl := Option.some.inj hv
      simpa [RollWord.releasesPhase] using hrel

/-- R51, R70: an OWNED entry cools if its owner departs or releases it, and stands otherwise. -/
theorem close_owned {s : State} {k : Phase} {a : Addr} (h : s.ptu.table[k] = .owned a) :
    (departureAt s a ≠ none ∨ releasesAt s (close s) k a → (close s).ptu.table[k] = .cooling2) ∧
      (¬(departureAt s a ≠ none ∨ releasesAt s (close s) k a) → (close s).ptu.table[k] = .owned a) := by
  have hentry : (close s).ptu.table[k] =
      releaseEntry (membershipStage s).rcm k (membershipStage s).ptu.table[k] := by
    rw [close_table, claimEntry_of_not_vacant (by simp [h]), h, coolEntry_owned]
  have hdecided : (membershipStage s).ptu.table[k] = if departs s a then .cooling2 else .owned a := by
    rw [membershipStage_table]
    simp [h]
  rw [hentry, hdecided, ← departs_iff]
  by_cases hd : departs s a = true
  · simp [hd, releaseEntry]
  · rcases releaseEntry_owned s k a with ⟨he, hrel⟩ | ⟨he, hrel⟩ <;> simp [hd, he, hrel]

/-- Settles O40, by what each entry was when the close began. -/
theorem closeDecidesEveryEntry : Obligations.CloseDecidesEveryEntry := by
  refine fun s ht => ⟨close s, rollCallClose_eq ht, fun k => ?_⟩
  split
  · rename_i hv
    rw [close_vacant hv]
    simp only [← claimantAt_iff]
    rcases lowestClaimant_cases (membershipStage s).rcm k with ⟨hnone, hall⟩ | ⟨a, hsome, ha, hlow⟩
    · exact .inl ⟨by rw [hnone]; rfl, fun a => by simp [hall a]⟩
    · exact .inr ⟨a, by rw [hsome]; rfl, ha, fun b hb => by simp [hlow b hb]⟩
  · rename_i hc
    rw [close_unowned (by simp [hc]) (by simp [hc]), hc]
    rfl
  · rename_i hc
    rw [close_unowned (by simp [hc]) (by simp [hc]), hc]
    rfl
  · rename_i hu
    rw [close_unowned (by simp [hu]) (by simp [hu]), hu]
    rfl
  · rename_i a ho
    obtain ⟨hcools, hstands⟩ := close_owned ho
    split
    · exact hcools ‹_›
    · exact hstands ‹_›

end Sys2Proof.Machine

namespace Sys2Proof.Machine

/-! ## What the close leaves of stage 6 (R60, R61, R65, R74) -/

theorem withCru_isPending (s : State) (v : Cru) (e : Event) : (s.withCru v).isPending e = s.isPending e := rfl

theorem closeAddress_isPending {s u : State} {a : Addr} {e : Event} (hm : e ≠ .membership) (hd : e ≠ .doneReady) :
    (closeAddress s u a).isPending e = u.isPending e := by
  have hdepart : (departFor s u a).isPending e = u.isPending e := by
    unfold departFor
    split
    · rfl
    · rw [departAtClose_isPending _ _ _ hd, decide_eq_false (Ne.symm hm), Bool.false_or]
  unfold closeAddress
  split
  · rw [arrive_isPending, decide_eq_false (Ne.symm hm), Bool.false_or, hdepart]
  · exact hdepart

/-- R51, R52, R144: stage 1 posts MEMBERSHIP and DONE_READY at most. -/
theorem closeTabled_isPending {s : State} {e : Event} (hm : e ≠ .membership) (hd : e ≠ .doneReady) :
    (closeTabled s).isPending e = s.isPending e := by
  have hstage : (closeTabled s).isPending e = (closeDecided s).isPending e := by
    unfold closeTabled
    rw [membershipStage_eq]
    rfl
  rw [hstage]
  exact foldl_keeps (fun u => u.isPending e) _ (fun u a => closeAddress_isPending hm hd) _ _

theorem closeTabled_cru (s : State) : (closeTabled s).cru = s.cru := by simp [closeTabled]

theorem closeTabled_own (s : State) : (closeTabled s).own = s.own := by simp [closeTabled, State.own]

theorem closeTabled_record (s : State) : (closeTabled s).rcm.record = s.rcm.record := by
  unfold closeTabled
  rw [State.withPtu_rcm, membershipStage_eq]
  exact (closeDecided_rcm s).1

theorem closeTabled_table (s : State) : (closeTabled s).ptu.table = (close s).ptu.table := by rw [close_ptu]; rfl

/-- R79: a joiner's entry to ACTIVE leaves CRU alone. -/
theorem close_cru (s : State) : (close s).cru = (closeSettled s).cru := by
  rw [close_eq]
  split <;> simp

/-- R79: it posts SYNC_STATE alone. -/
theorem close_isPending_settled {s : State} {e : Event} (he : e ≠ .syncState) :
    (close s).isPending e = (closeSettled s).isPending e := by
  rw [close_eq]
  split
  · rw [enter_isPending, decide_eq_false (Ne.symm he), Bool.false_or]
  · rfl

/-- R65: the carried releases leave claim register and last outcome alone. -/
theorem applyCarried_claim (s : State) :
    (applyCarried s).cru.claim = s.cru.claim ∧ (applyCarried s).cru.lastClaim = s.cru.lastClaim := by
  rcases applyCarried_cases s with ⟨c, w, hc, hw, hne⟩ | hnothing
  · rw [applyCarried_applied hc hw hne]
    simp
  · rw [applyCarried_nothing hnothing]
    exact ⟨rfl, rfl⟩

/-- R61, R71: the station is given the phases that went from VACANT to its own. -/
theorem ownGrants_eq (s : State) : ownGrants s = (List.finRange 96).filter fun k : Phase =>
    s.ptu.table[k] = .vacant ∧ (close s).ptu.table[k] = .owned s.own := by
  refine List.filter_congr fun k _ => ?_
  simp only [claimStage, releaseStage, getElem_fin_tab, closeTabled_own]
  rw [close_table]
  by_cases hv : s.ptu.table[k] = .vacant
  · rw [releasedEntry_of_not_owned (by simp [hv]), hv]
    simp [coolEntry]
  · rw [claimEntry_of_not_vacant hv]
    simp only [hv, false_and, decide_false, decide_eq_false_iff_not]
    rintro ⟨hvacant, howned⟩
    rw [hvacant] at howned
    cases howned

/-- R60, R61: the own claim with the grants of the close at `s`. -/
def Claim.granting (c : Claim) (s : State) : Claim := { c with granted := c.granted ++ ownGrants s }

/-- R60, R61: the evaluation finds claim, own address and table as the close leaves them. -/
theorem closeSettled_found {s : State} {c : Claim} (hc : s.cru.claim = some c) :
    (applyCarried (closeTabled s)).cru.claim = some c ∧
      claimOutcome (c.granting s) (applyCarried (closeTabled s)).own (applyCarried (closeTabled s)).ptu.table =
        claimOutcome (c.granting s) s.own (close s).ptu.table := by
  have hown : (applyCarried (closeTabled s)).own = s.own := by
    rw [← closeTabled_own s]
    simp [State.own]
  refine ⟨by rw [(applyCarried_claim _).1, closeTabled_cru, hc], ?_⟩
  rw [hown, ← closeTabled_table]
  simp

/-- R60, R61: a claim that the close ends leaves its outcome, with the granted list, and CLAIM_END pending. -/
theorem close_claim_ends {s : State} {c : Claim} {o : ClaimOutcome} (hc : s.cru.claim = some c)
    (ho : claimOutcome (c.granting s) s.own (close s).ptu.table = some o) :
    (close s).cru.claim = none ∧ (close s).cru.lastClaim = some (o, c.granted ++ ownGrants s) ∧
      (close s).isPending .claimEnd = true := by
  obtain ⟨hclaim, hfound⟩ := closeSettled_found hc
  have hends : closeSettled s = endClaim o (c.granting s) (applyCarried (closeTabled s)) :=
    evaluateClaim_ends hclaim (hfound.trans ho)
  rw [close_cru, close_isPending_settled (by decide), hends]
  exact ⟨rfl, rfl, by simp [endClaim]⟩

/-- R60, R61: a claim that stays PENDING has its grants, and nothing else changes. -/
theorem close_claim_stays {s : State} {c : Claim} (hc : s.cru.claim = some c)
    (ho : claimOutcome (c.granting s) s.own (close s).ptu.table = none) :
    (close s).cru.claim = some { c with granted := c.granted ++ ownGrants s } ∧
      (close s).cru.lastClaim = s.cru.lastClaim ∧ (close s).isPending .claimEnd = s.isPending .claimEnd := by
  obtain ⟨hclaim, hfound⟩ := closeSettled_found hc
  have hstays : closeSettled s = (applyCarried (closeTabled s)).withCru
      { (applyCarried (closeTabled s)).cru with claim := some (c.granting s) } :=
    evaluateClaim_stays hclaim (hfound.trans ho)
  have hlast := (applyCarried_claim (closeTabled s)).2
  have hpending := applyCarried_isPending (closeTabled s) (e := .claimEnd) (by decide)
  rw [closeTabled_cru] at hlast
  rw [closeTabled_isPending (by decide) (by decide)] at hpending
  rw [close_cru, close_isPending_settled (by decide), hstays]
  rw [State.withCru_cru, withCru_isPending]
  dsimp only
  exact ⟨rfl, hlast, hpending⟩

/-- R60: the outcome of a COUNT claim. -/
theorem claimOutcome_count {c : Claim} (hk : c.kind = .count) (own : Addr) (t : Vector Entry 96) :
    claimOutcome c own t = if c.requested ≤ c.granted.length then some .granted
      else if c.attempts < 4 then none else some (if c.granted = [] then .refused else .partly) := by
  simp only [claimOutcome, hk, Config.claimAttempts, List.isEmpty_iff]
  (repeat' split) <;> rfl

/-- R60: the outcome of an AT claim whose target is OWNED. -/
theorem claimOutcome_at_owned {c : Claim} {p : Phase} {a : Addr} {t : Vector Entry 96} (hk : c.kind = .at p)
    (ho : t[p] = .owned a) (own : Addr) :
    claimOutcome c own t = some (if a = own then .granted else .refused) := by
  simp only [claimOutcome, hk, ho, Entry.owner]
  split <;> rfl

/-- R60: the outcome of an AT claim whose target is not OWNED (log entry 11). -/
theorem claimOutcome_at_unowned {c : Claim} {p : Phase} {t : Vector Entry 96} (hk : c.kind = .at p)
    (hn : ∀ a, t[p] ≠ .owned a) (own : Addr) :
    claimOutcome c own t = if c.attempts < 4 then none else some .refused := by
  have howner : t[p].owner = none := by
    cases he : t[p] with
    | owned a => exact absurd he (hn a)
    | _ => rfl
  simp only [claimOutcome, hk, howner]
  rfl

/-- Settles O41, by the outcome of the claim behind the close. -/
theorem closeSettlesTheClaim : Obligations.CloseSettlesTheClaim := by
  refine ⟨fun c s ht hc hk => ⟨close s, c.granted ++ ownGrants s, rollCallClose_eq ht, by rw [ownGrants_eq],
      fun hall => close_claim_ends hc ?_, fun hless hlast => close_claim_ends hc ?_,
      fun hless hmore => close_claim_stays hc ?_⟩,
    fun c p s ht hc hk => ⟨close s, c.granted ++ ownGrants s, rollCallClose_eq ht, by rw [ownGrants_eq],
      fun hown => close_claim_ends hc ?_, fun a ha howned => close_claim_ends hc ?_,
      fun hnot hlast => close_claim_ends hc ?_, fun hnot hmore => close_claim_stays hc ?_⟩⟩
  · rw [claimOutcome_count (c := c.granting s) hk]
    exact if_pos hall
  · rw [claimOutcome_count (c := c.granting s) hk]
    exact (if_neg (not_le.mpr hless)).trans (if_neg (not_lt.mpr hlast))
  · rw [claimOutcome_count (c := c.granting s) hk]
    exact (if_neg (not_le.mpr hless)).trans (if_pos hmore)
  · rw [claimOutcome_at_owned (c := c.granting s) hk hown, if_pos rfl]
  · rw [claimOutcome_at_owned (c := c.granting s) hk howned, if_neg ha]
  · rw [claimOutcome_at_unowned (c := c.granting s) hk hnot]
    exact if_neg (not_lt.mpr hlast)
  · rw [claimOutcome_at_unowned (c := c.granting s) hk hnot]
    exact if_pos hmore

end Sys2Proof.Machine

namespace Sys2Proof.Machine

/-! ## SYNC at a close (R50, R51, R74, R79, R89) -/

/-- R51 step 4: SYNC at the departure of an address. -/
theorem departAtClose_sync (a : Addr) (why : DepartReason) (s : State) : (departAtClose a why s).sync =
    { s.sync with holderVacant := s.sync.holderVacant || decide (a ≠ s.own ∧ s.sync.holderAddr = some a) } := by
  have hown : ∀ u, (tellDeparted a u).own = u.own := fun u => by simp [State.own]
  unfold departAtClose
  dsimp only
  split
  · rename_i h
    have hvacates : a ≠ s.own ∧ s.sync.holderAddr = some a := by simpa [hown, State.own] using h
    simp [hvacates]
  · rename_i h
    have hstands : ¬(a ≠ s.own ∧ s.sync.holderAddr = some a) := by simpa [hown, State.own] using h
    simp [hstands]

/-- R51: the close at `s` counts the holder, another address, as departed. -/
def vacates (s : State) (a : Addr) : Bool :=
  departs s a && decide (a ≠ s.own ∧ s.sync.holderAddr = some a)

theorem closeAddress_sync {s u : State} (a : Addr) (ho : u.own = s.own)
    (hh : u.sync.holderAddr = s.sync.holderAddr) : (closeAddress s u a).sync =
      { u.sync with holderVacant := u.sync.holderVacant || vacates s a } := by
  have hdepart : (departFor s u a).sync = { u.sync with holderVacant := u.sync.holderVacant || vacates s a } := by
    unfold departFor vacates departs
    cases departureAt s a with
    | none => simp
    | some why => simp [departAtClose_sync, ho, hh]
  unfold closeAddress
  split
  · simpa using hdepart
  · exact hdepart

theorem foldl_holderVacant (p : Addr → Bool) (l : List Addr) (y : Sync) :
    l.foldl (fun y a => { y with holderVacant := y.holderVacant || p a }) y =
      { y with holderVacant := l.foldl (fun b a => b || p a) y.holderVacant } := by
  induction l generalizing y with
  | nil => rfl
  | cons a l ih => rw [List.foldl_cons, List.foldl_cons, ih]

/-- R51, R69: stage 1 writes the holder-vacant flag of SYNC alone. -/
theorem membershipStage_sync (s : State) : (membershipStage s).sync = { s.sync with
    holderVacant := (List.finRange 32).foldl (fun b a => b || vacates s a) s.sync.holderVacant } := by
  rw [membershipStage_eq, State.withRcm_sync, ← foldl_holderVacant]
  exact foldl_part State.sync (fun y a => { y with holderVacant := y.holderVacant || vacates s a })
    (fun u => u.own = s.own ∧ u.sync.holderAddr = s.sync.holderAddr)
    (fun u a ⟨ho, hh⟩ => ⟨by rw [← ho]; simp [State.own], by rw [closeAddress_sync a ho hh, ← hh]⟩)
    (fun u a ⟨ho, hh⟩ => closeAddress_sync a ho hh) _ _ ⟨rfl, rfl⟩

theorem closeSettled_sync (s : State) : (closeSettled s).sync = (membershipStage s).sync := by
  simp [closeSettled, closeTabled]

/-- R79: of the rest the entry to ACTIVE writes the sync state. -/
theorem close_sync (s : State) : (close s).sync = { (membershipStage s).sync with
    state := if joinDecided s then .active else s.sync.state } := by
  rw [close_eq]
  split
  · rw [enter_sync, closeSettled_sync]
  · rw [closeSettled_sync, ← membershipStage_state s]

theorem close_holderVacant (s : State) : (close s).sync.holderVacant = true ↔ s.sync.holderVacant = true ∨
    ∃ a, a ≠ s.own ∧ s.sync.holderAddr = some a ∧ departureAt s a ≠ none := by
  rw [close_sync, membershipStage_sync]
  dsimp only
  rw [foldl_or]
  simp only [List.mem_finRange, true_and, vacates, Bool.and_eq_true, decide_eq_true_eq, departs_iff]
  exact or_congr_right (exists_congr fun a => by tauto)

theorem joinDecided_iff (s : State) : joinDecided s = true ↔
    s.sync.state = .joining ∧ ∃ w, s.rcm.record[s.own] = some w ∧ w.join = true := by
  unfold joinDecided
  cases s.rcm.record[s.own] <;> simp

/-- R50: the own JOIN is an arrival. -/
theorem arrivalAt_of_joinDecided {s : State} (h : joinDecided s = true) : arrivalAt s s.own := by
  obtain ⟨hs, w, hw, hj⟩ := (joinDecided_iff s).mp h
  unfold arrivalAt
  rw [hw]
  simp [hs, hj]

/-- R50, R74, R79: a joiner whose own JOIN is in the record becomes ACTIVE. -/
theorem close_joins {s : State} (h : joinDecided s = true) : (close s).sync.state = .active ∧
    (close s).isPending .syncState = true ∧ (close s).rcm.presence[s.own] = some 0 := by
  refine ⟨by rw [close_sync, if_pos h], ?_, (close_presence_cases s s.own).1 (arrivalAt_of_joinDecided h)⟩
  rw [close_eq, if_pos h]
  simp

/-- R79: at no other close does the sync state change. -/
theorem close_stays {s : State} (h : joinDecided s = false) : (close s).sync.state = s.sync.state ∧
    (close s).isPending .syncState = s.isPending .syncState := by
  refine ⟨by rw [close_sync, h]; rfl, ?_⟩
  rw [close_eq, h, if_neg (by simp), closeSettled, evaluateClaim_isPending _ _ (by decide),
    applyCarried_isPending _ (by decide), closeTabled_isPending (by decide) (by decide)]

/-! ## The carried releases at a close (R65) -/

/-- R65, R74: what the close leaves of the releases is what the carried record leaves of them. -/
theorem close_releases (s : State) : (close s).cru.carried = (applyCarried (closeTabled s)).cru.carried ∧
    (close s).cru.releases = (applyCarried (closeTabled s)).cru.releases ∧
    (close s).cru.releaseAll = (applyCarried (closeTabled s)).cru.releaseAll ∧
    (close s).cru.lastRelease = (applyCarried (closeTabled s)).cru.lastRelease ∧
    (close s).isPending .releaseEnd = (applyCarried (closeTabled s)).isPending .releaseEnd := by
  rw [close_isPending_settled (by decide), close_cru, closeSettled, evaluateClaim_isPending _ _ (by decide),
    evaluateClaim_cru]
  dsimp only
  exact ⟨rfl, rfl, rfl, rfl, rfl⟩

/-- R65: the close finds the own roll word as it stands in the record. -/
theorem closeTabled_ownWord (s : State) :
    (closeTabled s).rcm.record[(closeTabled s).own] = s.rcm.record[s.own] := by
  simp only [closeTabled_own, closeTabled_record]

/-- R65: carried releases of an own roll word in the record. -/
theorem close_applied {s : State} {c : Carried} {w : RollWord} (hc : s.cru.carried = some c)
    (hw : s.rcm.record[s.own] = some w) (hne : c.phases ≠ [] ∨ c.all = true) :
    applyCarried (closeTabled s) = post .releaseEnd ((closeTabled s).withCru { s.cru with
      carried := none
      releases := s.cru.releases.filter (fun p => p ∉ c.phases)
      releaseAll := s.cru.releaseAll && !c.all
      lastRelease := some .applied }) := by
  rw [← closeTabled_ownWord s] at hw
  rw [← closeTabled_cru s] at hc ⊢
  exact applyCarried_applied hc hw hne

/-- R65: no carried releases, or no own roll word in the record. -/
theorem close_nothing {s : State} (h : s.cru.carried = none ∨ s.rcm.record[s.own] = none ∨
    s.cru.carried = some { phases := [], all := false }) :
    applyCarried (closeTabled s) = (closeTabled s).withCru { s.cru with carried := none } := by
  rw [← closeTabled_ownWord s, ← closeTabled_cru s] at h
  rw [← closeTabled_cru s]
  exact applyCarried_nothing h

theorem close_carried (s : State) : (close s).cru.carried = none := by
  rw [(close_releases s).1]
  rcases applyCarried_cases s with ⟨c, w, hc, hw, hne⟩ | hnothing
  · rw [close_applied hc hw hne]
    simp
  · rw [close_nothing hnothing]
    rfl

/-- Settles O42, by the two cases of the carried record and the two of the own JOIN. -/
theorem closeEndsReleasesAndJoining : Obligations.CloseEndsReleasesAndJoining := by
  refine ⟨fun s ht => ⟨close s, rollCallClose_eq ht, close_carried s, fun c w hc hw hne => ?_, fun hnothing => ?_⟩,
    fun s ht => ⟨close s, rollCallClose_eq ht, fun w hs hw hj => close_joins ?_, fun hno => close_stays ?_,
      by simp, by simp, by simp, ?_, ?_, close_holderVacant s⟩⟩
  · obtain ⟨-, hreleases, hall, hlast, hpending⟩ := close_releases s
    rw [hreleases, hall, hlast, hpending, close_applied hc hw hne]
    simp
  · obtain ⟨-, hreleases, hall, hlast, hpending⟩ := close_releases s
    have htabled := closeTabled_isPending (s := s) (e := .releaseEnd) (by decide) (by decide)
    rw [hreleases, hall, hlast, hpending, close_nothing hnothing, withCru_isPending, htabled]
    exact ⟨rfl, rfl, rfl, rfl⟩
  · exact (joinDecided_iff s).mpr ⟨hs, w, hw, hj⟩
  · rw [← Bool.not_eq_true, joinDecided_iff]
    rintro ⟨hs, w, hw, hj⟩
    rcases hno with hno | hno
    · exact hno hs
    · simp [hno w hw] at hj
  · rw [close_sync, membershipStage_sync]
  · rw [close_sync, membershipStage_sync]

end Sys2Proof.Machine

namespace Sys2Proof.Machine

/-! ## JOIN (R93) -/

/-- R13, R17, R93: a station that joins the line enters LISTENING with both timers started. -/
theorem joinLine_eq (s : State) : joinLine s = listeningFrom s := by
  apply state_ext
  case hp => rfl
  all_goals simp [joinLine, listeningFrom, enterListening_sync, Sync.stop, Sync.reset, Ptu.forget, Ptu.reset, Rcm.clear,
    Rcm.reset]

theorem ne_start_of_eq_or_eq {st a b : SyncState} (h : st = a ∨ st = b) (ha : a ≠ .start) (hb : b ≠ .start) :
    st ≠ .start := by
  rcases h with rfl | rfl <;> assumption

/-- R93: a station on the line is in neither of the states that JOIN leaves, and has done with START. -/
theorem not_joinable_of_onLine {st : SyncState} (h : st.onLine = true) :
    st ≠ .start ∧ ¬ (st = .offline ∨ st = .withdrawn) := by
  cases st <;> simp [SyncState.onLine] at h ⊢

/-- R93, R172: a JOIN that passes the checks is answered by the station's state. -/
theorem join_answered {s : State} (hr : s.hp.tx = .request) (hs : s.sync.state ≠ .start) :
    exec (.join []) s = .next (if s.sync.state = .offline ∨ s.sync.state = .withdrawn
      then replied 0x11#8 [] .ok [] (listeningFrom s) else replied 0x11#8 [] .state [] s) := by
  refine congrArg _ ((takeRequest_by_rule 0x11#8 [] _ s hr (.inl hs)).trans ?_)
  rw [joinLine_eq]
  split <;> rfl

/-! ## WITHDRAW (R94, R95) -/

/-- R172: a WITHDRAW that passes the checks is answered with what its own rule comes to. -/
theorem withdraw_answered {s : State} {r : Result} (hr : s.hp.tx = .request) (hs : s.sync.state ≠ .start)
    (hrule : withdrawRule s = r) : exec (.withdraw []) s = .next (replied 0x12#8 [] r.status r.data r.state) := by
  subst hrule
  exact congrArg _ (takeRequest_by_rule 0x12#8 [] withdrawRule s hr (.inl hs))

/-- R94: in ACTIVE and RELEARN the withdraw waits for the LEAVE. -/
theorem withdrawRule_waits {s : State} (hs : s.sync.state = .active ∨ s.sync.state = .relearn) :
    withdrawRule s = accept (s.withSync { s.sync with withdrawPending := true }) := by
  rcases hs with hs | hs <;> simp only [withdrawRule, hs]

/-- R94: in JOINING the host has to wait. -/
theorem withdrawRule_joining {s : State} (hs : s.sync.state = .joining) : withdrawRule s = refuse s .busy := by
  simp only [withdrawRule, hs]

/-- R94: off the line there is nothing to withdraw from. -/
theorem withdrawRule_offLine {s : State} (hs : s.sync.state = .offline ∨ s.sync.state = .withdrawn) :
    withdrawRule s = refuse s .state := by
  rcases hs with hs | hs <;> simp only [withdrawRule, hs]

/-- R94, R95: in LISTENING and LEARNING no LEAVE is due and the station withdraws at once. -/
theorem withdrawRule_atOnce {s : State} (hs : s.sync.state = .listening ∨ s.sync.state = .learning) :
    withdrawRule s = accept (withdrawNow s) := by
  rcases hs with hs | hs <;> simp only [withdrawRule, hs]

/-- Settles O19: JOIN by whether the station is on the line, WITHDRAW by the four groups of states of its rule. -/
theorem joinAndWithdraw : Obligations.JoinAndWithdraw := by
  refine ⟨fun s hr => ⟨fun hs => ?_, fun hl => ?_⟩,
    fun s hr => ⟨fun hs => ?_, fun hs => ?_, fun hs => ?_, fun hs => ⟨withdrawNow s, withdrawNow_whole s, ?_⟩⟩⟩
  · rw [join_answered hr (ne_start_of_eq_or_eq hs (by decide) (by decide)), if_pos hs]
  · obtain ⟨hstarted, hnot⟩ := not_joinable_of_onLine hl
    rw [join_answered hr hstarted, if_neg hnot]
  · exact withdraw_answered hr (ne_start_of_eq_or_eq hs (by decide) (by decide)) (withdrawRule_waits hs)
  · exact withdraw_answered hr (by simp [hs]) (withdrawRule_joining hs)
  · exact withdraw_answered hr (ne_start_of_eq_or_eq hs (by decide) (by decide)) (withdrawRule_offLine hs)
  · exact withdraw_answered hr (ne_start_of_eq_or_eq hs (by decide) (by decide)) (withdrawRule_atOnce hs)

end Sys2Proof.Machine

namespace Sys2Proof.Machine

/-! ## Heads for absent destinations leave a class queue (R107) -/

/-- R107: the completion of a head that is dropped. -/
def noDestinationRec (cycle : Option Half) (f : TxFrame) : DoneRec :=
  { frame := f, status := .noDestination, cycle := cycle }

theorem destAbsent_eq (s : State) (f : TxFrame) : destAbsent s f = absentDest s f := by
  cases hdest : f.dest with
  | broadcast => simp only [destAbsent, absentDest, hdest]
  | unicast d => simp only [destAbsent, absentDest, hdest, Rcm.present, Option.not_isSome]

theorem absentDest_congr {s u : State} (h : u.rcm = s.rcm) : absentDest u = absentDest s := by
  funext f
  unfold absentDest
  rw [h]

theorem setQueue_queue_self (t : Txe) (c : Cls) : t.setQueue c (t.queue c) = t := by
  cases c <;> rfl

/-- Nothing of TXE but its class queues has changed. -/
structure QueuesOnly (t u : Txe) : Prop where
  free : u.free = t.free
  pattern : u.pattern = t.pattern
  staged : u.staged = t.staged
  applyPending : u.applyPending = t.applyPending
  pointer : u.pointer = t.pointer
  nextSeq : u.nextSeq = t.nextSeq
  bcastSeq : u.bcastSeq = t.bcastSeq
  conflict : u.conflict = t.conflict
  mark : u.mark = t.mark

theorem QueuesOnly.refl (t : Txe) : QueuesOnly t t := ⟨rfl, rfl, rfl, rfl, rfl, rfl, rfl, rfl, rfl⟩

theorem QueuesOnly.trans {t u v : Txe} (h : QueuesOnly t u) (h' : QueuesOnly u v) : QueuesOnly t v :=
  ⟨h'.free.trans h.free, h'.pattern.trans h.pattern, h'.staged.trans h.staged,
    h'.applyPending.trans h.applyPending, h'.pointer.trans h.pointer, h'.nextSeq.trans h.nextSeq,
    h'.bcastSeq.trans h.bcastSeq, h'.conflict.trans h.conflict, h'.mark.trans h.mark⟩

theorem queuesOnly_setQueue (t : Txe) (c : Cls) (q : List TxFrame) : QueuesOnly t (t.setQueue c q) := by
  cases c <;> exact ⟨rfl, rfl, rfl, rfl, rfl, rfl, rfl, rfl, rfl⟩

/-- R107: what dropping a queue's absent heads comes to: those heads are DONE in their order, and the rest stands. -/
structure HeadsDropped (c : Cls) (l : List TxFrame) (s u : State) : Prop where
  queue : ∀ d, u.txe.queue d = if d = c then l.dropWhile (absentDest s) else s.txe.queue d
  txe : QueuesOnly s.txe u.txe
  dlt : u.dlt = { s.dlt with
    done := s.dlt.done ++ (l.takeWhile (absentDest s)).map (noDestinationRec s.sync.cycleNumber) }
  doneReady : DoneReadyBy s u

theorem headsDropped_none {c : Cls} {l : List TxFrame} (s : State) (hdrop : l.dropWhile (absentDest s) = l)
    (htake : l.takeWhile (absentDest s) = []) : HeadsDropped c l s (s.withTxe (s.txe.setQueue c l)) where
  queue d := by rw [hdrop]; exact setQueue_queue s.txe c d l
  txe := queuesOnly_setQueue ..
  dlt := by simp [htake]
  doneReady := .of_same rfl rfl

theorem headsDropped (c : Cls) (l : List TxFrame) (s : State) : HeadsDropped c l s (dropAbsent c l s) := by
  induction l generalizing s with
  | nil => exact headsDropped_none s rfl rfl
  | cons f rest ih =>
    unfold dropAbsent
    rw [destAbsent_eq]
    split
    · rename_i habsent
      obtain ⟨hqueue, htxe, hdlt, hready⟩ := ih (complete .noDestination f (s.withTxe (s.txe.setQueue c rest)))
      have hsame : absentDest (complete .noDestination f (s.withTxe (s.txe.setQueue c rest))) = absentDest s :=
        absentDest_congr (by simp)
      rw [hsame] at hqueue hdlt
      refine ⟨fun d => ?_, ?_, ?_, ?_⟩
      · rw [hqueue d, List.dropWhile_cons_of_pos habsent]
        split <;> simp [setQueue_queue, *]
      · exact (queuesOnly_setQueue s.txe c rest).trans (by simpa using htxe)
      · simpa [List.takeWhile_cons_of_pos habsent, noDestinationRec] using hdlt
      · exact (DoneReadyBy.of_same (s := s) (t := s.withTxe (s.txe.setQueue c rest)) rfl rfl).trans
          ((doneReadyBy_complete ..).trans hready)
    · rename_i hthere
      exact headsDropped_none s (by simp [hthere]) (by simp [hthere])

/-! ## The walk over the pattern (R106, R107) -/

/-- R107: the completions that the first examination of a class leaves. -/
def droppedDone (s : State) (c : Cls) : List DoneRec :=
  (droppedHeads s c).map (noDestinationRec s.sync.cycleNumber)

/-- Every block but TXE, DLT and HP stands. -/
structure OthersKept (s u : State) : Prop where
  lif : u.lif = s.lif
  sync : u.sync = s.sync
  ptu : u.ptu = s.ptu
  rcm : u.rcm = s.rcm
  cru : u.cru = s.cru
  rxe : u.rxe = s.rxe
  fru : u.fru = s.fru
  cfg : u.cfg = s.cfg

/-- R106, R107: what the walk leaves of `s` where it has examined the classes `l` and sent nothing. -/
structure WalkedPast (s : State) (l : List Cls) (u : State) : Prop where
  queue : ∀ c, u.txe.queue c = if c ∈ l then liveQueue s c else s.txe.queue c
  txe : QueuesOnly s.txe u.txe
  dlt : u.dlt = { s.dlt with done := s.dlt.done ++ l.eraseDups.flatMap (droppedDone s) }
  doneReady : DoneReadyBy s u
  others : OthersKept s u

theorem walkedPast_nil (s : State) : WalkedPast s [] s where
  queue _ := rfl
  txe := .refl _
  dlt := by simp
  doneReady := .of_same rfl rfl
  others := ⟨rfl, rfl, rfl, rfl, rfl, rfl, rfl, rfl⟩

/-- A queue without its dropped heads has none to drop. -/
theorem dropWhile_absent_liveQueue (s : State) (c : Cls) :
    (liveQueue s c).dropWhile (absentDest s) = liveQueue s c := List.dropWhile_idempotent _ _

theorem takeWhile_absent_liveQueue (s : State) (c : Cls) : (liveQueue s c).takeWhile (absentDest s) = [] := by
  have hsplit := List.takeWhile_append_dropWhile (p := absentDest s) (l := liveQueue s c)
  rw [dropWhile_absent_liveQueue] at hsplit
  exact List.append_left_eq_self.mp hsplit

/-- R106, R107: a class examined again drops no more heads. -/
theorem WalkedPast.examine {s u : State} {l : List Cls} (h : WalkedPast s l u) (c : Cls) :
    WalkedPast s (l ++ [c]) (dropAbsent c (u.txe.queue c) u) := by
  obtain ⟨hqueue, htxe, hdlt, hready⟩ := headsDropped c (u.txe.queue c) u
  rw [absentDest_congr h.others.rcm] at hqueue hdlt
  refine ⟨fun d => ?_, h.txe.trans htxe, ?_, h.doneReady.trans hready, ?_⟩
  · rw [hqueue d, h.queue, h.queue]
    by_cases hd : d = c
    · subst hd
      by_cases hl : d ∈ l
      · simp [hl, dropWhile_absent_liveQueue]
      · simp [hl, liveQueue]
    · simp [hd]
  · rw [hdlt, h.dlt, h.queue, h.others.sync, List.eraseDups_append]
    by_cases hl : c ∈ l
    · simp [hl, takeWhile_absent_liveQueue, List.removeAll]
    · simp [hl, List.removeAll, List.eraseDups_cons, droppedDone, droppedHeads]
  · obtain ⟨hlif, hsync, hptu, hrcm, hcru, hrxe, hfru, hcfg⟩ := h.others
    exact ⟨by simp [hlif], by simp [hsync], by simp [hptu], by simp [hrcm], by simp [hcru], by simp [hrxe],
      by simp [hfru], by simp [hcfg]⟩

/-- R106: the station's own test of a head, in a state that the walk has left. -/
theorem eligible_eq {s u : State} (hrcm : u.rcm = s.rcm) (hretry : u.dlt.retry = s.dlt.retry) (f : TxFrame) :
    eligible u f = canSend s f := by
  cases hdest : f.dest with
  | broadcast => simp only [eligible, canSend, hdest]
  | unicast d =>
    have hfree : (!s.dlt.retry.any (RetryEntry.isFor d)) = true ↔ ∀ e ∈ s.dlt.retry, e.frame.dest ≠ .unicast d := by
      simp only [Bool.not_eq_true', List.any_eq_false, isFor_iff, ne_eq]
    simp only [eligible, canSend, hdest, hrcm, hretry, Rcm.present, Config.retryListSize]
    rw [Bool.eq_iff_iff, Bool.and_eq_true, Bool.and_eq_true, hfree, decide_eq_true_iff, decide_eq_true_iff,
      Option.isSome_iff_ne_none, and_assoc]

/-- R106: the classes of the first `m` entries that the walk examines. -/
def firstClasses (s : State) (m : Nat) : List Cls := ((List.finRange 16).take m).map (classAt s)

theorem firstClasses_succ (s : State) (j : Fin 16) :
    firstClasses s (j + 1) = firstClasses s j ++ [classAt s j] := by
  unfold firstClasses
  rw [List.take_add_one]
  simp

theorem examined_eq (s : State) (n : Fin 16) : examined s n = (firstClasses s (n + 1)).eraseDups := by
  have hfirst : ∀ n : Fin 16,
      (List.finRange 16).filter (fun j => decide (j ≤ n)) = (List.finRange 16).take (n + 1) := by decide
  unfold examined firstClasses
  rw [hfirst]

theorem mem_examined (s : State) (n : Fin 16) (c : Cls) : c ∈ examined s n ↔ c ∈ firstClasses s (n + 1) := by
  rw [examined_eq, List.mem_eraseDups]

theorem noDestinations_eq (s : State) (n : Fin 16) :
    noDestinations s n = (firstClasses s (n + 1)).eraseDups.flatMap (droppedDone s) := by
  unfold noDestinations
  rw [examined_eq]
  rfl

/-- R106: what the walk finds in the queue of the class that it examines. -/
theorem WalkedPast.examined_queue {s u : State} {l : List Cls} (h : WalkedPast s l u) (c : Cls) :
    (dropAbsent c (u.txe.queue c) u).txe.queue c = liveQueue s c := by
  simp [(h.examine c).queue]

theorem WalkedPast.eligible_eq_canSend {s u : State} {l : List Cls} (h : WalkedPast s l u) (f : TxFrame) :
    eligible u f = canSend s f := eligible_eq h.others.rcm (by rw [h.dlt]) f

/-- R106: an entry whose class has no eligible head is passed over. -/
theorem WalkedPast.passes {s u : State} {l : List Cls} (h : WalkedPast s l u) (k : Phase) (n : Nat) (i : Fin 16)
    (hi : servable s s.txe.pattern[i] = false) : walk k (n + 1) i u =
      walk k n (i + 1) (dropAbsent s.txe.pattern[i] (u.txe.queue s.txe.pattern[i]) u) := by
  have hlive := h.examined_queue s.txe.pattern[i]
  unfold servable at hi
  conv => lhs; unfold walk
  dsimp only
  rw [h.txe.pattern, hlive]
  split
  · rfl
  · rename_i f rest hq
    rw [hq] at hi
    rw [(h.examine _).eligible_eq_canSend, if_neg (by simp [hi])]

/-- R106: the first eligible head is sent. -/
theorem WalkedPast.serves {s u : State} {l : List Cls} (h : WalkedPast s l u) (k : Phase) (n : Nat) (i : Fin 16)
    {f : TxFrame} {rest : List TxFrame} (hq : liveQueue s s.txe.pattern[i] = f :: rest) (hf : canSend s f = true) :
    walk k (n + 1) i u = sendHead k i s.txe.pattern[i] f rest
      (dropAbsent s.txe.pattern[i] (u.txe.queue s.txe.pattern[i]) u) := by
  have hlive := h.examined_queue s.txe.pattern[i]
  rw [hq] at hlive
  unfold walk
  dsimp only
  rw [h.txe.pattern, hlive]
  dsimp only
  rw [(h.examine _).eligible_eq_canSend, if_pos hf]

/-- R106: the walk past the first `m` entries, of which none has an eligible head. -/
theorem walk_past (k : Phase) {s : State} {m : Nat} (hm : m ≤ 16)
    (hnone : ∀ i : Fin 16, i.val < m → servable s (classAt s i) = false) :
    ∃ u, WalkedPast s (firstClasses s m) u ∧
      walk k 16 s.txe.pointer s = walk k (16 - m) (s.txe.pointer + Fin.ofNat 16 m) u := by
  induction m with
  | zero => exact ⟨s, walkedPast_nil s, by simp⟩
  | succ m ih =>
    obtain ⟨u, hu, hwalk⟩ := ih (by omega) fun i hi => hnone i (by omega)
    have hj : Fin.ofNat 16 m = ⟨m, hm⟩ := Fin.ext (Nat.mod_eq_of_lt hm)
    have hnext : s.txe.pointer + ⟨m, hm⟩ + 1 = s.txe.pointer + Fin.ofNat 16 (m + 1) := by
      apply Fin.ext
      simp [Fin.val_add]
      omega
    refine ⟨_, (firstClasses_succ s ⟨m, hm⟩) ▸ hu.examine (classAt s ⟨m, hm⟩), ?_⟩
    rw [hwalk, hj, show 16 - m = 16 - (m + 1) + 1 by omega, hu.passes k _ _ (hnone ⟨m, hm⟩ (by simp)), hnext]
    rfl

end Sys2Proof.Machine

namespace Sys2Proof.Machine

/-! ## The head that is sent (R106, R108 to R110) -/

/-- What sending a head of class `c` does whatever its destination; `q` is what it leaves of the class queue. -/
structure HeadSent (i : Fin 16) (c : Cls) (q : List TxFrame) (s t : State) : Prop where
  pointer : t.txe.pointer = i + 1
  free : t.txe.free = s.txe.free
  queue : ∀ d, t.txe.queue d = if d = c then q else s.txe.queue d
  done : t.dlt.done = s.dlt.done
  dueCounter : t.dlt.dueCounter = s.dlt.dueCounter
  pending : ∀ e, t.isPending e = s.isPending e

/-- R108 to R110: a unicast takes its destination's sequence and goes to the tail of the retry list. -/
structure UnicastSent (k : Phase) (i : Fin 16) (c : Cls) (d : Addr) (f : TxFrame) (rest : List TxFrame)
    (s t : State) : Prop where
  head : HeadSent i c rest s t
  lif : t.lif = { s.lif with tx := some { frame := .data k none, bytes := dataBytes s f s.txe.nextSeq[d] } }
  nextSeq : t.txe.nextSeq = s.txe.nextSeq.set d (s.txe.nextSeq[d] + 1#8)
  bcastSeq : t.txe.bcastSeq = s.txe.bcastSeq
  retry : t.dlt.retry = s.dlt.retry ++ [{
    frame := { f with seq := some s.txe.nextSeq[d], attempts := 1 }, age := 0, due := none, closed := false }]

theorem sendHead_unicast (k : Phase) (i : Fin 16) (c : Cls) {d : Addr} {f : TxFrame} (rest : List TxFrame) (s : State)
    (hdest : f.dest = .unicast d) : UnicastSent k i c d f rest s (sendHead k i c f rest s) := by
  unfold sendHead
  rw [hdest]
  exact {
    head := {
      pointer := rfl
      free := (queuesOnly_setQueue _ c rest).free
      queue := fun x => (queue_congr rfl rfl rfl rfl x).trans ((setQueue_queue _ c x rest).trans
        (if_congr Iff.rfl rfl (queue_congr rfl rfl rfl rfl x)))
      done := rfl
      dueCounter := rfl
      pending := fun _ => rfl }
    lif := rfl
    nextSeq := (queuesOnly_setQueue _ c rest).nextSeq
    bcastSeq := (queuesOnly_setQueue _ c rest).bcastSeq
    retry := rfl }

/-- R108, R111: a broadcast takes the broadcast sequence, if it has none, and stays at the head of its queue. -/
structure BroadcastSent (k : Phase) (i : Fin 16) (c : Cls) (f : TxFrame) (rest : List TxFrame) (s t : State) :
    Prop where
  head : HeadSent i c ({ f with seq := some (f.seq.getD s.txe.bcastSeq), attempts := 1 } :: rest) s t
  lif : t.lif = { s.lif with tx := some {
    frame := .data k (some c), bytes := dataBytes s f (f.seq.getD s.txe.bcastSeq) } }
  nextSeq : t.txe.nextSeq = s.txe.nextSeq
  bcastSeq : t.txe.bcastSeq = if f.seq = none then s.txe.bcastSeq + 1#8 else s.txe.bcastSeq
  retry : t.dlt.retry = s.dlt.retry

theorem sendHead_broadcast (k : Phase) (i : Fin 16) (c : Cls) {f : TxFrame} (rest : List TxFrame) (s : State)
    (hdest : f.dest = .broadcast) : BroadcastSent k i c f rest s (sendHead k i c f rest s) := by
  unfold sendHead
  rw [hdest]
  exact {
    head := {
      pointer := rfl
      free := (queuesOnly_setQueue _ c _).free
      queue := fun x => (queue_congr rfl rfl rfl rfl x).trans ((setQueue_queue _ c x _).trans
        (if_congr Iff.rfl rfl (queue_congr rfl rfl rfl rfl x)))
      done := rfl
      dueCounter := rfl
      pending := fun _ => rfl }
    lif := rfl
    nextSeq := (queuesOnly_setQueue _ c _).nextSeq
    bcastSeq := (queuesOnly_setQueue _ c _).bcastSeq.trans (if_congr Option.isNone_iff_eq_none rfl rfl)
    retry := rfl }

theorem headSent (k : Phase) (i : Fin 16) (c : Cls) (f : TxFrame) (rest : List TxFrame) (s : State) :
    ∃ q, HeadSent i c q s (sendHead k i c f rest s) := by
  cases hdest : f.dest with
  | unicast d => exact ⟨_, (sendHead_unicast k i c rest s hdest).head⟩
  | broadcast => exact ⟨_, (sendHead_broadcast k i c rest s hdest).head⟩

/-! ## The entry that became DUE first (R105, R134) -/

/-- R105: `best` is the entry of `l` that became DUE first, or none where no entry is DUE. -/
def EarliestIn (counter : Byte) (l : List RetryEntry) : Option RetryEntry → Prop
  | none => ∀ e ∈ l, e.due = none
  | some e => e ∈ l ∧ ∃ d, e.due = some d ∧ ∀ x ∈ l, ∀ y, x.due = some y → dueAge counter d ≤ dueAge counter y

theorem EarliestIn.concat {counter : Byte} {l : List RetryEntry} {best : Option RetryEntry}
    (h : EarliestIn counter l best) (e : RetryEntry) : EarliestIn counter (l ++ [e]) (earlierDue counter best e) := by
  have hlast : ∀ d, e.due = some d → (∀ x ∈ l, ∀ y, x.due = some y → dueAge counter d ≤ dueAge counter y) →
      EarliestIn counter (l ++ [e]) (some e) := fun d hd hfirst =>
    ⟨by simp, d, hd, by simpa [or_imp, forall_and, hd] using hfirst⟩
  cases hdue : e.due with
  | none =>
    rw [show earlierDue counter best e = best by simp [earlierDue, hdue]]
    cases best with
    | none => simpa [EarliestIn, or_imp, forall_and, hdue] using h
    | some b =>
      obtain ⟨hb, d, hd, hfirst⟩ := h
      exact ⟨by simp [hb], d, hd, by simpa [or_imp, forall_and, hdue] using hfirst⟩
  | some d =>
    cases best with
    | none =>
      rw [show earlierDue counter none e = some e by simp [earlierDue, hdue]]
      exact hlast d hdue fun x hx y hy => by rw [h x hx] at hy; cases hy
    | some b =>
      obtain ⟨hb, d', hd', hfirst⟩ := h
      simp only [earlierDue, hdue, hd', Option.getD_some]
      split
      · rename_i hlt
        exact hlast d hdue fun x hx y hy => hlt.le.trans (hfirst x hx y hy)
      · rename_i hlt
        exact ⟨by simp [hb], d', hd', by simpa [or_imp, forall_and, hdue, Nat.le_of_not_lt hlt] using hfirst⟩

theorem earliestDue_earliestIn (d : Dlt) : EarliestIn d.dueCounter d.retry (earliestDue d) := by
  unfold earliestDue
  induction d.retry using List.reverseRecOn with
  | nil => exact fun _ he => absurd he (List.not_mem_nil)
  | append_singleton l e ih => rw [List.foldl_concat]; exact ih.concat e

theorem earliestDue_eq_none {d : Dlt} (h : ∀ e ∈ d.retry, e.due = none) : earliestDue d = none := by
  have hearliest := earliestDue_earliestIn d
  cases he : earliestDue d with
  | none => rfl
  | some e =>
    rw [he] at hearliest
    obtain ⟨hmem, y, hy, -⟩ := hearliest
    rw [h e hmem] at hy
    cases hy

theorem earliestDue_eq_some {d : Dlt} (h : ∃ e ∈ d.retry, e.due ≠ none) : ∃ e, earliestDue d = some e := by
  have hearliest := earliestDue_earliestIn d
  cases he : earliestDue d with
  | none =>
    rw [he] at hearliest
    obtain ⟨e, hmem, hdue⟩ := h
    exact absurd (hearliest e hmem) hdue
  | some e => exact ⟨e, rfl⟩

/-- R131, R136: with one entry per destination, the one sent again is the only one that changes. -/
theorem map_resent {before after : List RetryEntry} {e : RetryEntry} (h : RetryListSound (before ++ e :: after)) :
    ((before ++ e :: after).map fun x => if x = e then x.resent else x) = before ++ e.resent :: after := by
  obtain ⟨-, hafter, hbefore⟩ := List.pairwise_append.mp h.onePerDestination
  have hb : ∀ x ∈ before, x ≠ e := fun x hx he => hbefore x hx e (by simp) (by rw [he])
  have ha : ∀ x ∈ after, x ≠ e := fun x hx he => (List.pairwise_cons.mp hafter).1 x hx (by rw [he])
  rw [List.map_append, List.map_cons, if_pos rfl, List.map_congr_left fun x hx => if_neg (hb x hx),
    List.map_congr_left fun x hx => if_neg (ha x hx), List.map_id', List.map_id']

end Sys2Proof.Machine

namespace Sys2Proof.Machine

/-! ## Selection in an owned phase (R104 to R106) -/

theorem dataPhase_owned {k : Phase} {s : State} (ha : s.sync.state = .active) (ht : s.slotTiming = true)
    (ho : s.ptu.table[k] = .owned s.own) : exec (.dataPhase k) s = .next (select k s) :=
  congrArg _ (if_pos ⟨ha, ht, owner_eq_some.mpr ho⟩)

theorem dataPhase_not_owned {k : Phase} {s : State}
    (h : s.sync.state ≠ .active ∨ s.slotTiming = false ∨ s.ptu.table[k] ≠ .owned s.own) :
    exec (.dataPhase k) s = .next s := by
  refine congrArg _ (if_neg ?_)
  rintro ⟨ha, ht, ho⟩
  rcases h with h | h | h
  · exact h ha
  · rw [h] at ht; cases ht
  · exact h (owner_eq_some.mp ho)

/-- R105: with nothing DUE the class queues are walked. -/
theorem select_walks (k : Phase) {s : State} (h : ∀ e ∈ s.dlt.retry, e.due = none) :
    select k s = walk k 16 s.txe.pointer s := by
  unfold select
  rw [earliestDue_eq_none h]

theorem walk_emptyQueues (k : Phase) {s : State} (h : ∀ c, s.txe.queue c = []) (n : Nat) (i : Fin 16) :
    walk k n i s = s := by
  induction n generalizing i with
  | zero => rfl
  | succ n ih =>
    have hdrop : ∀ c, dropAbsent c [] s = s := fun c => by
      have hkept := setQueue_queue_self s.txe c
      rw [h] at hkept
      unfold dropAbsent
      rw [hkept]
      rfl
    unfold walk
    dsimp only
    rw [h, hdrop, h]
    exact ih (i + 1)

/-- Settles O43: outside an owned phase, with empty queues, and at the end of a walk that has served no entry. -/
theorem phasesInWhichNothingIsSent : Obligations.PhasesInWhichNothingIsSent := by
  refine ⟨⟨fun k s => dataPhase_not_owned, fun k s ha ht ho hdue h0 h1 h2 h3 => ?_⟩, fun k s ha ht ho hdue hnone => ?_⟩
  · rw [dataPhase_owned ha ht ho, select_walks k hdue, walk_emptyQueues k (by rintro (_ | _) <;> assumption)]
  · obtain ⟨u, hu, hwalk⟩ := walk_past k (s := s) le_rfl fun i _ => hnone i
    have hlast := noDestinations_eq s 15
    refine ⟨u, by rw [dataPhase_owned ha ht ho, select_walks k hdue, hwalk]; rfl, fun c => ?_, hu.txe.pointer,
      hu.txe.nextSeq, hu.txe.bcastSeq, hu.txe.free, by rw [hlast]; exact hu.dlt, hu.others.lif, hu.others.fru,
      hu.others.sync, hu.others.ptu, hu.others.rcm, hu.others.cru, hu.others.rxe, hu.others.cfg, ?_⟩
    · rw [hu.queue]
      exact if_congr (mem_examined s 15 c).symm rfl rfl
    · rw [hu.doneReady.posted, hu.dlt, hlast]
      exact or_congr_right (and_congr_right fun hd => by rw [hd]; rfl)

/-- Settles O44: the earliest DUE entry is found, and of the sound list it alone is sent again. -/
theorem dueEntryIsSentFirst : Obligations.DueEntryIsSentFirst := by
  intro k s ha ht ho hsound hdue
  obtain ⟨e, he⟩ := earliestDue_eq_some hdue
  have hearliest := earliestDue_earliestIn s.dlt
  rw [he] at hearliest
  obtain ⟨hmem, d, hd, hfirst⟩ := hearliest
  obtain ⟨before, after, hlist⟩ := List.append_of_mem hmem
  refine ⟨before, after, e, d, hlist, hd, fun x hx => hfirst x ?_, ?_⟩
  · rw [hlist]
    rcases List.mem_append.mp hx with hx | hx <;> simp [hx]
  · rw [hlist] at hsound
    rw [dataPhase_owned ha ht ho]
    unfold select
    rw [he]
    dsimp only [retransmit]
    rw [hlist, map_resent hsound]
    rfl

/-- Settles O45: past the entries that the walk does not serve, by the destination of the head that it sends. -/
theorem headsAreSentFromTheirQueue : Obligations.HeadsAreSentFromTheirQueue := by
  intro k j c f rest s ha ht ho hdue hnone hc hq hf
  obtain ⟨u, hu, hwalk⟩ := walk_past k (s := s) (m := j) (by omega) fun i hi => hnone i hi
  have hpast : WalkedPast s (firstClasses s (j + 1)) (dropAbsent c (u.txe.queue c) u) := by
    rw [firstClasses_succ, ← hc]
    exact hu.examine c
  have hserves : walk k 16 s.txe.pointer s =
      sendHead k (s.txe.pointer + j) c f rest (dropAbsent c (u.txe.queue c) u) := by
    subst hc
    rw [hwalk, Fin.ofNat_val_eq_self, show 16 - j.val = 15 - j.val + 1 by omega]
    exact hu.serves k _ _ hq hf
  generalize dropAbsent c (u.txe.queue c) u = v at hpast hserves
  obtain ⟨q, hsent⟩ := headSent k (s.txe.pointer + j) c f rest v
  have hbytes : ∀ q, dataBytes v f q = dataBytes s f q := fun q => by
    simp only [dataBytes, State.own, hpast.others.cfg]
  have hretry : v.dlt.retry = s.dlt.retry := by rw [hpast.dlt]
  refine ⟨_, by rw [dataPhase_owned ha ht ho, select_walks k hdue, hserves], hsent.pointer,
    hsent.free.trans hpast.txe.free, fun c' hc' => ?_, ?_, hsent.dueCounter.trans (by rw [hpast.dlt]), ?_,
    by simp [hpast.others.sync], by simp [hpast.others.ptu], by simp [hpast.others.rcm], by simp [hpast.others.cru],
    by simp [hpast.others.rxe], by simp [hpast.others.fru], by simp [hpast.others.cfg], fun d hd => ?_, fun hb => ?_⟩
  · rw [hsent.queue, if_neg hc', hpast.queue]
    exact if_congr (mem_examined s j c').symm rfl rfl
  · rw [hsent.done, hpast.dlt, noDestinations_eq]
  · rw [hsent.pending, hpast.doneReady.posted, hpast.dlt, noDestinations_eq]
    exact or_congr_right (and_congr_right fun hd => by rw [hd]; rfl)
  · have h := sendHead_unicast k (s.txe.pointer + j) c rest v hd
    rw [h.lif, h.head.queue, h.nextSeq, h.bcastSeq, h.retry, hbytes, hpast.others.lif, hpast.txe.nextSeq,
      hpast.txe.bcastSeq, hretry]
    exact ⟨rfl, if_pos rfl, rfl, rfl, rfl⟩
  · have h := sendHead_broadcast k (s.txe.pointer + j) c rest v hb
    rw [h.lif, h.head.queue, h.nextSeq, h.bcastSeq, h.retry, hbytes, hpast.others.lif, hpast.txe.nextSeq,
      hpast.txe.bcastSeq, hretry]
    exact ⟨rfl, if_pos rfl, rfl, rfl, rfl⟩

end Sys2Proof.Machine

namespace Sys2Proof.Machine

/-! ## PUSH (R97 to R99) -/

theorem addrOf_eq_some {b : Byte} {a : Addr} (h : addrOf b = some a) : b = finByte a := by
  unfold addrOf at h
  split at h
  · obtain rfl := Option.some.inj h
    simp [finByte, byteOf]
  · cases h

theorem destOf_eq_none {b : Byte} : destOf b = none ↔ 32#8 ≤ b ∧ b ≠ 63#8 := by
  unfold destOf
  split
  · rename_i h
    simp [h]
  · rename_i h
    simp [addrOf_eq_none, h]

theorem destOf_eq_unicast {b : Byte} {a : Addr} : destOf b = some (.unicast a) ↔ b = finByte a := by
  constructor
  · intro h
    unfold destOf at h
    split at h
    · cases h
    · obtain ⟨x, hx, hxa⟩ := Option.map_eq_some_iff.mp h
      obtain rfl := Dest.unicast.inj hxa
      exact addrOf_eq_some hx
  · rintro rfl
    unfold destOf
    rw [if_neg (finByte_ne_broadcast a), addrOf_finByte]
    rfl

/-- R172: a PUSH whose length fits is answered with what its own rule comes to. -/
theorem push_answered {dest cls hi lo len : Byte} {payload : List Byte} {s : State} {r : Result}
    (hlen : payload.length = len.toNat) (hr : s.hp.tx = .request) (hs : s.sync.state ≠ .start)
    (hrule : pushRule ([dest, cls, hi, lo, len] ++ payload) s = r) :
    exec (.push ([dest, cls, hi, lo, len] ++ payload)) s =
      .next (replied 0x02#8 ([dest, cls, hi, lo, len] ++ payload) r.status r.data r.state) := by
  subst hrule
  have hok : pushLengthOk ([dest, cls, hi, lo, len] ++ payload) = true := by
    simp [pushLengthOk, at', hlen]
    omega
  have htaken := takeRequest_by_rule 0x02#8 ([dest, cls, hi, lo, len] ++ payload)
    (pushRule ([dest, cls, hi, lo, len] ++ payload)) s hr (.inl hs)
  rw [← hok] at htaken
  exact congrArg _ htaken

/-- R98: TXE with a FREE buffer made QUEUED behind class `c`. -/
def Txe.pushed (t : Txe) (c : Cls) (f : TxFrame) : Txe :=
  { t with free := t.free - 1 }.setQueue c (t.queue c ++ [f])

/-- R98: PUSH, where the class and the destination are in range. -/
theorem pushRule_in_range {dest cls : Byte} {c : Cls} {d : Dest} (hc : clsOf cls = some c) (hd : destOf dest = some d)
    (hi lo len : Byte) (payload : List Byte) (s : State) : pushRule ([dest, cls, hi, lo, len] ++ payload) s =
      if d = .unicast s.own ∨ 60 < len.toNat ∨ len.toNat % 4 ≠ 0 then refuse s .badArg
      else if s.txe.free = 0 then refuse s .poolEmpty
      else accept (s.withTxe (s.txe.pushed c
        { dest := d, cls := c, tag := hi ++ lo, payload := payload, seq := none, attempts := 0 })) := by
  have hclass : clsOf (at' ([dest, cls, hi, lo, len] ++ payload) 1) = some c := hc
  have hdest : destOf (at' ([dest, cls, hi, lo, len] ++ payload) 0) = some d := hd
  unfold pushRule
  rw [hclass, hdest]
  cases c <;> rfl

theorem pushRule_out_of_range {dest cls : Byte} (h : clsOf cls = none ∨ destOf dest = none) (hi lo len : Byte)
    (payload : List Byte) (s : State) : pushRule ([dest, cls, hi, lo, len] ++ payload) s = refuse s .badArg := by
  unfold pushRule
  split
  · rename_i c d hc hd
    rcases h with h | h
    · cases h.symm.trans hc
    · cases h.symm.trans hd
  · rfl

theorem pushRule_badArg {dest cls len : Byte} {s : State}
    (h : 4#8 ≤ cls ∨ (32#8 ≤ dest ∧ dest ≠ 63#8) ∨ dest = finByte s.own ∨ 60#8 < len ∨ len.toNat % 4 ≠ 0)
    (hi lo : Byte) (payload : List Byte) :
    pushRule ([dest, cls, hi, lo, len] ++ payload) s = refuse s .badArg := by
  cases hc : clsOf cls with
  | none => exact pushRule_out_of_range (.inl hc) ..
  | some c =>
    cases hd : destOf dest with
    | none => exact pushRule_out_of_range (.inr hd) ..
    | some d =>
      rw [pushRule_in_range hc hd, if_pos]
      rcases h with h | h | h | h | h
      · rw [(clsOf_eq_none cls).mpr h] at hc; cases hc
      · rw [destOf_eq_none.mpr h] at hd; cases hd
      · rw [destOf_eq_unicast.mpr h] at hd; exact .inl (Option.some.inj hd).symm
      · exact .inr (.inl h)
      · exact .inr (.inr h)

/-- Settles O13: the checks of PUSH by what its bytes name, then its effect on TXE. -/
theorem pushQueuesAFrame : Obligations.PushQueuesAFrame := by
  intro dest cls hi lo len payload s hlen hr hs
  refine ⟨fun h => push_answered hlen hr hs (pushRule_badArg h hi lo payload), fun c d hc hd hown h60 h4 => ?_⟩
  have hchecked : ¬(d = .unicast s.own ∨ 60 < len.toNat ∨ len.toNat % 4 ≠ 0) := by
    rintro (rfl | h | h)
    · exact hown (destOf_eq_unicast.mp hd)
    · exact absurd h (Nat.not_lt.mpr h60)
    · exact h h4
  have hrule := pushRule_in_range hc hd hi lo len payload s
  rw [if_neg hchecked] at hrule
  refine ⟨fun hfree => ?_, fun hfree => ?_⟩
  · rw [if_pos hfree] at hrule
    exact push_answered hlen hr hs hrule
  · rw [if_neg hfree] at hrule
    refine ⟨_, push_answered hlen hr hs hrule, (setQueue_queue ..).trans (if_pos rfl), fun c' hc' => ?_, ?_⟩
    · exact (setQueue_queue ..).trans ((if_neg hc').trans (queue_congr rfl rfl rfl rfl c'))
    · obtain ⟨hf, hp, hst, ha, hpt, hn, hb, hcf, hm⟩ := queuesOnly_setQueue { s.txe with free := s.txe.free - 1 } c
        (s.txe.queue c ++ [{ dest := d, cls := c, tag := hi ++ lo, payload := payload, seq := none, attempts := 0 }])
      exact ⟨hf, hp, hst, ha, hpt, hn, hb, hcf, hm⟩

/-! ## STAGE_PATTERN and APPLY_PATTERN (R102, R103) -/

/-- R97: a byte in range is that of the class it names. -/
theorem byte_clsOf {b : Byte} (h : b ≤ 3#8) : ((clsOf b).getD .c0).byte = b := by
  revert h b
  decide

/-- R172: a STAGE_PATTERN of 16 bytes is answered with what its own rule comes to. -/
theorem stagePattern_answered {args : List Byte} {s : State} {r : Result} (hlen : args.length = 16)
    (hr : s.hp.tx = .request) (hs : s.sync.state ≠ .start) (hrule : stagePatternRule args s = r) :
    exec (.stagePattern args) s = .next (replied 0x0F#8 args r.status r.data r.state) := by
  subst hrule
  have htaken := takeRequest_by_rule 0x0F#8 args (stagePatternRule args) s hr (.inl hs)
  rw [← beq_iff_eq.mpr hlen] at htaken
  exact congrArg _ htaken

theorem stagePatternRule_badArg {args : List Byte} (s : State) (h : ∃ b ∈ args, 3#8 < b) :
    stagePatternRule args s = refuse s .badArg := by
  obtain ⟨b, hb, hbig⟩ := h
  have hnone : clsOf b = none := (clsOf_eq_none b).mpr (by bv_omega)
  exact if_pos (List.any_eq_true.mpr ⟨b, hb, by rw [hnone]; rfl⟩)

theorem stagePatternRule_in_range {args : List Byte} (s : State) (h : ∀ b ∈ args, b ≤ 3#8) :
    stagePatternRule args s = if s.txe.applyPending then refuse s .busy
      else accept (s.withTxe { s.txe with staged := tab fun i => (clsOf (at' args i.val)).getD .c0 }) := by
  refine if_neg fun hany => ?_
  obtain ⟨b, hb, hnone⟩ := List.any_eq_true.mp hany
  obtain ⟨c, hc⟩ := clsOf_of_le (h b hb)
  rw [hc] at hnone
  cases hnone

/-- R102: the staged classes are the 16 bytes, in their order. -/
theorem staged_bytes {args : List Byte} (hlen : args.length = 16) (h : ∀ b ∈ args, b ≤ 3#8) :
    ((tab fun i => (clsOf (at' args i.val)).getD .c0 : Vector Cls 16)).toList.map Cls.byte = args := by
  apply List.ext_getElem
  · simp [hlen]
  · intro i hi hargs
    have hat : at' args i = args[i] := by simp [at', hargs]
    simp only [List.getElem_map, Vector.getElem_toList, getElem_tab, hat]
    exact byte_clsOf (h _ (List.getElem_mem hargs))

/-- Settles O18: STAGE_PATTERN by its two checks, in their order, and APPLY_PATTERN, which has none. -/
theorem patternRequests : Obligations.PatternRequests := by
  refine ⟨fun args s hlen hr hs => ⟨fun h => stagePattern_answered hlen hr hs (stagePatternRule_badArg s h),
    fun h hpending => ?_, fun h hpending => ?_⟩,
    fun s hr hs => congrArg _ (takeRequest_by_rule 0x10#8 [] _ s hr (.inl hs))⟩
  · have hrule := stagePatternRule_in_range s h
    rw [if_pos hpending] at hrule
    exact stagePattern_answered hlen hr hs hrule
  · have hrule := stagePatternRule_in_range s h
    rw [if_neg (by simp [hpending])] at hrule
    exact ⟨_, staged_bytes hlen h, stagePattern_answered hlen hr hs hrule⟩

end Sys2Proof.Machine

namespace Sys2Proof.Machine

/-! ## The reset values (R97, R168) -/

theorem receiveSound_reset (own : Addr) : ReceiveSound own Rxe.reset where
  atMost32 := Nat.zero_le 32
  onePerSource := .nil
  notOwn _ h := absurd h List.not_mem_nil
  asAccepted _ h := absurd h List.not_mem_nil

theorem retryListSound_nil : RetryListSound [] where
  atMost16 := Nat.zero_le 16
  onePerDestination := .nil
  noBroadcast _ h := absurd h List.not_mem_nil

theorem faultsSound_cleared : FaultsSound Fru.cleared := by
  constructor <;> simp [Fru.cleared]

/-- Settles O49: block by block, at the values of the power-on reset. -/
theorem resetIsSound : Obligations.ResetIsSound :=
  ⟨rfl, retryListSound_nil, receiveSound_reset _, .of_reset rfl rfl, .of_reset (.inl rfl) rfl, presenceSound_reset,
    .of_idle cruIdle_reset, faultsSound_cleared, configurationSound_defaults,
    fun _ => ⟨rfl, rfl, rfl, rfl, rfl, rfl, rfl, rfl⟩⟩

end Sys2Proof.Machine

namespace Sys2Proof.Machine

/-! ## The pool behind the operations that move buffers (R97, R100) -/

/-- R97: TXE and DLT alone hold buffers. -/
theorem pool_congr {s t : State} (htxe : t.txe = s.txe) (hdlt : t.dlt = s.dlt) : t.pool = s.pool := by
  unfold State.pool
  rw [htxe, hdlt]

/-- R97: where one class queue alone has changed, it alone counts. -/
theorem queued_of_queue {t u : Txe} (c : Cls) (h : ∀ d, d ≠ c → u.queue d = t.queue d) :
    u.queued + (t.queue c).length = t.queued + (u.queue c).length := by
  have h0 : c ≠ .c0 → u.q0 = t.q0 := fun hc => h .c0 hc.symm
  have h1 : c ≠ .c1 → u.q1 = t.q1 := fun hc => h .c1 hc.symm
  have h2 : c ≠ .c2 → u.q2 = t.q2 := fun hc => h .c2 hc.symm
  have h3 : c ≠ .c3 → u.q3 = t.q3 := fun hc => h .c3 hc.symm
  cases c <;> simp_all only [Txe.queued, Txe.queue, ne_eq, reduceCtorEq, not_false_eq_true, forall_const] <;> omega

/-- R142: one more buffer is DONE. -/
theorem pool_complete (st : DoneStatus) (f : TxFrame) (s : State) : (complete st f s).pool = s.pool + 1 := by
  simp [State.pool]
  omega

theorem waitingFrames_length (s : State) : (waitingFrames s).length = s.txe.queued + s.dlt.retry.length := by
  simp only [waitingFrames, Txe.queued, List.length_append, List.length_map]

/-- R132: a finished entry's buffer is DONE in place of AWAITING_ACK. -/
theorem pool_finishEntry (a : Addr) (st : DoneStatus) (s : State) : (finishEntry a st s).pool = s.pool := by
  unfold finishEntry
  split
  · rfl
  · rename_i e hfound
    have hmem := List.mem_of_find?_eq_some hfound
    have hlen := List.length_eraseP_of_mem hmem (List.find?_some hfound)
    have hpos := List.length_pos_of_mem hmem
    rw [pool_complete]
    simp only [State.pool, State.withDlt_txe, State.withDlt_dlt, hlen]
    omega

/-- R114, R139. -/
theorem pool_tellDeparted (a : Addr) (s : State) : (tellDeparted a s).pool = s.pool := pool_finishEntry a .destLeft s

theorem pool_departAtClose (a : Addr) (why : DepartReason) (s : State) : (departAtClose a why s).pool = s.pool := by
  unfold departAtClose
  dsimp only
  split <;> exact pool_tellDeparted a _

theorem pool_departAtMarker (a : Addr) (s : State) : (departAtMarker a s).pool = s.pool :=
  pool_tellDeparted a (removePresent a s)

theorem pool_closeEntries (s : State) : (closeEntries s).pool = s.pool := by
  simp [State.pool]

theorem pool_leaveActive (s : State) : (leaveActive s).pool = s.pool := by
  unfold State.pool
  rw [leaveActive_txe]
  split <;> simp [Txe.queued]

/-- R115, R145: on entry to WITHDRAWN every waiting buffer is DONE. -/
theorem pool_withdrawNow (s : State) : (withdrawNow s).pool = s.pool := by
  have hflushed := waitingFrames_length s
  simp [State.pool, Txe.queued] at hflushed ⊢
  omega

theorem pool_fatal (k : FaultKind) (ctx : FaultCtx) (s : State) : (fatal k ctx s).pool = s.pool := by
  have hfault : (recordFault k ctx s).pool = s.pool := pool_congr (by simp) (by simp)
  unfold fatal
  dsimp only
  split
  · exact (pool_withdrawNow _).trans hfault
  · exact hfault

theorem pool_toRelearn (s : State) : (toRelearn s).pool = s.pool := by
  unfold toRelearn
  dsimp only
  split <;> exact (pool_congr (by simp) (by simp)).trans (pool_leaveActive s)

theorem pool_degradeToRelearn (k : FaultKind) (ctx : FaultCtx) (s : State) :
    (degradeToRelearn k ctx s).pool = s.pool := by
  have hfault : (recordFault k ctx s).pool = s.pool := pool_congr (by simp) (by simp)
  unfold degradeToRelearn
  dsimp only
  split
  · exact (pool_toRelearn _).trans hfault
  · exact hfault

/-! ## The pool at a cycle start (R133 to R135) -/

/-- R133 to R135: an aged entry's buffer, taken off the list, is kept on it or DONE. -/
theorem pool_ageEntry (s : State) (e : RetryEntry) : (ageEntry s e).pool = s.pool + 1 := by
  have hgiven : (giveUp e.frame s).pool = s.pool + 1 :=
    (pool_congr (by simp [giveUp]) (by simp [giveUp])).trans (pool_complete .unconfirmed e.frame s)
  have hkept : ∀ x, (keepEntry x s).pool = s.pool + 1 := by
    intro x
    simp only [keepEntry, State.pool, State.withDlt_txe, State.withDlt_dlt, List.length_append, List.length_singleton]
    omega
  unfold ageEntry
  dsimp only
  (repeat' split)
  · exact hgiven
  · exact hkept e
  · exact hkept _
  · exact hgiven
  · exact hkept _

theorem pool_ageRetryList (s : State) : (ageRetryList s).pool = s.pool := by
  have haged : ∀ (l : List RetryEntry) (u : State), (l.foldl ageEntry u).pool = u.pool + l.length := by
    intro l
    induction l with
    | nil => exact fun _ => rfl
    | cons e l ih =>
      intro u
      rw [List.foldl_cons, ih, pool_ageEntry, List.length_cons]
      omega
  unfold ageRetryList
  rw [haged]
  simp only [State.pool, State.withDlt_txe, State.withDlt_dlt, List.length_nil]
  omega

theorem pool_produceCycleStart (s : State) : (produceCycleStart s).pool = s.pool := by
  have happlied : ∀ u, (applyStaged u).pool = u.pool := by
    intro u
    unfold applyStaged
    split <;> rfl
  unfold produceCycleStart
  dsimp only
  rw [happlied]
  split
  · exact pool_ageRetryList _
  · rfl

/-! ## The pool behind markers and roll words -/

theorem pool_markerTiming (m : Marker) (o : Int) (restart : Bool) (s : State) :
    (markerTiming m o restart s).pool = s.pool := by
  cases restart
  · rfl
  · exact (pool_produceCycleStart _).trans rfl

theorem pool_learningFailure (s : State) : (learningFailure s).pool = s.pool := by
  unfold learningFailure
  dsimp only
  split
  · rfl
  · exact (pool_fatal _ _ _).trans rfl

theorem pool_markerCompare (m : Marker) (s : State) : (markerCompare m s).pool = s.pool := by
  unfold markerCompare
  (repeat' split)
  · rfl
  · exact pool_degradeToRelearn _ _ s
  · rfl
  · exact pool_learningFailure s
  · rfl

theorem pool_adoptPresence (m : Marker) (s : State) : (adoptPresence m s).pool = s.pool := by
  have hone : ∀ u a, (adoptAddress m u a).pool = u.pool := by
    intro u a
    unfold adoptAddress
    (repeat' split)
    · rfl
    · exact pool_departAtMarker a u
    · rfl
    · rfl
  unfold adoptPresence
  dsimp only
  refine (pool_congr (State.withRcm_txe ..) (State.withRcm_dlt ..)).trans ?_
  exact foldl_keeps State.pool _ hone _ _

theorem pool_displacementTest (s : State) : (displacementTest s).pool = s.pool := by
  have hfault : (recordFault .displaced .none s).pool = s.pool := pool_congr (by simp) (by simp)
  have hforget : ∀ u, (forgetPeers u).pool = u.pool := fun u => pool_closeEntries (freshSources u)
  unfold displacementTest
  dsimp only
  (repeat' split)
  · exact (pool_withdrawNow _).trans hfault
  · exact (hforget _).trans ((pool_leaveActive _).trans hfault)
  · exact (hforget _).trans hfault
  · rfl

theorem pool_takeMarker (m : Marker) (o : Int) (restart : Bool) (s : State) :
    (takeMarker m o restart s).pool = s.pool := by
  have hcompared : (markerCompare m (markerLearn (markerTiming m o restart s))).pool = s.pool :=
    (pool_markerCompare m _).trans ((pool_congr (by simp) (by simp)).trans (pool_markerTiming m o restart s))
  unfold takeMarker
  dsimp only
  split
  · exact hcompared
  · exact (pool_congr (by simp) (by simp)).trans
      ((pool_displacementTest _).trans ((pool_adoptPresence m _).trans hcompared))

theorem pool_handleMarker (m : Marker) (o : Int) (s : State) : (handleMarker m o s).pool = s.pool := by
  have hdrop : (dropHolder s).pool = s.pool := pool_congr (by simp) (by simp)
  unfold handleMarker
  (repeat' split)
  · rfl
  · exact pool_fatal _ _ s
  · exact pool_takeMarker _ _ _ s
  · exact (pool_takeMarker _ _ _ _).trans hdrop
  · rfl
  · exact pool_takeMarker _ _ _ s
  · exact pool_takeMarker _ _ _ s
  · rfl

theorem pool_takeMarkerBytes (o : Int) (g : Bool) (b : List Byte) (s : State) :
    (takeMarkerBytes o g b s).pool = s.pool := by
  unfold takeMarkerBytes
  (repeat' split)
  · rfl
  · exact pool_congr (by simp) (by simp)
  · rfl
  · exact pool_handleMarker _ _ s

/-- R137. -/
theorem pool_takeAck (x : Addr) (s : State) (q : Byte) : (takeAck x s q).pool = s.pool := by
  have hstale : (recordFault .staleAck (.sender x) s).pool = s.pool := pool_congr (by simp) (by simp)
  unfold takeAck
  (repeat' split)
  · exact hstale
  · exact pool_finishEntry x .delivered s
  · exact hstale

theorem pool_acceptRollWord (k : Addr) (w : RollWord) (s : State) : (acceptRollWord k w s).pool = s.pool := by
  have hacked := foldl_keeps State.pool (takeAck k) (pool_takeAck k) (ownAcks w s)
    (s.withRcm { s.rcm with record := s.rcm.record.set k (some w) })
  unfold acceptRollWord
  dsimp only
  split <;> exact hacked

theorem pool_checkRollWord (k : Addr) (w : RollWord) (s : State) : (checkRollWord k w s).pool = s.pool := by
  have hfault : ∀ f ctx, (recordFault f ctx s).pool = s.pool := fun _ _ => pool_congr (by simp) (by simp)
  unfold checkRollWord
  (repeat' split)
  · exact hfault _ _
  · exact pool_fatal _ _ s
  · exact hfault _ _
  · exact hfault _ _
  · exact pool_acceptRollWord k w s

theorem pool_takeRollBytes (k : Addr) (g : Bool) (b : List Byte) (s : State) :
    (takeRollBytes k g b s).pool = s.pool := by
  unfold takeRollBytes
  (repeat' split)
  · exact pool_congr (by simp) (by simp)
  · exact pool_congr (by simp) (by simp)
  · rfl
  · exact pool_congr (by simp) (by simp)
  · exact (pool_checkRollWord k _ _).trans rfl
  · rfl

theorem pool_takeDataBytes (k : Phase) (g : Bool) (b : List Byte) (s : State) :
    (takeDataBytes k g b s).pool = s.pool := by
  unfold takeDataBytes
  (repeat' split) <;> exact pool_congr (by simp) (by simp)

/-! ## The pool behind read-backs -/

theorem pool_rollCollision (s : State) : (rollCollision s).pool = s.pool := by
  unfold rollCollision
  dsimp only
  split
  · rfl
  · exact (pool_fatal _ _ _).trans rfl

/-- R39. -/
theorem pool_ownRollReadBack {s t : State} (r : Reception) (ht : exec (.ownRollReadBack r) s = .next t) :
    t.pool = s.pool := by
  obtain rfl := next_inj ht
  split
  · dsimp only
    (repeat' split)
    · rfl
    · rfl
    · exact (pool_fatal _ _ _).trans rfl
    · exact (pool_rollCollision _).trans rfl
  · rfl

/-- R111: a broadcast that has been read back is DONE in place of QUEUED. -/
theorem pool_finishBroadcast (c : Cls) (st : DoneStatus) (s : State) : (finishBroadcast c st s).pool = s.pool := by
  unfold finishBroadcast
  split
  · rfl
  · rename_i f rest hqueue
    have hqueued := queued_of_queue (t := s.txe) (u := s.txe.setQueue c rest) c fun d hd =>
      (setQueue_queue s.txe c d rest).trans (if_neg hd)
    have hleft : (s.txe.setQueue c rest).queue c = rest := (setQueue_queue ..).trans (if_pos rfl)
    rw [hqueue, hleft, List.length_cons] at hqueued
    rw [pool_complete]
    unfold State.pool
    rw [State.withTxe_txe, State.withTxe_dlt, (queuesOnly_setQueue s.txe c rest).free]
    omega

theorem pool_readBackDone (k : Phase) (bcast : Option Cls) (ok : Bool) (s : State) :
    (readBackDone k bcast ok s).pool = s.pool := by
  cases bcast
  · rfl
  · exact (pool_finishBroadcast _ _ _).trans rfl

/-- R112. -/
theorem pool_phaseCollision (k : Phase) (s : State) : (phaseCollision k s).pool = s.pool := by
  have hfault : (recordFault .txCollision (.phase k) s).pool = s.pool := pool_congr (by simp) (by simp)
  unfold phaseCollision
  dsimp only
  (repeat' split)
  · exact hfault
  · exact hfault
  · exact (pool_degradeToRelearn _ _ _).trans hfault

/-- R11, R111, R112. -/
theorem pool_ownDataReadBack {s t : State} (r : Reception) (ht : exec (.ownDataReadBack r) s = .next t) :
    t.pool = s.pool := by
  have hclean : ∀ u, (phaseClean u).pool = u.pool := by
    intro u
    unfold phaseClean
    split <;> rfl
  by_cases htx : ∃ k c b, s.lif.tx = some { frame := .data k c, bytes := b }
  · obtain ⟨k, c, b, htx⟩ := htx
    rw [exec_ownDataReadBack htx] at ht
    obtain rfl := next_inj ht
    split
    · exact (hclean _).trans (pool_readBackDone k c true s)
    · exact (pool_phaseCollision k _).trans (pool_readBackDone k c false s)
  · obtain rfl := next_inj ht
    split
    · exact absurd ⟨_, _, _, ‹_›⟩ htx
    · rfl

end Sys2Proof.Machine

namespace Sys2Proof.Machine

/-! ## The pool behind selection (R106 to R110, R136) -/

/-- R107: the buffers of dropped heads are DONE in place of QUEUED. -/
theorem HeadsDropped.pool {c : Cls} {l : List TxFrame} {s u : State} (h : HeadsDropped c l s u)
    (hqueue : s.txe.queue c = l) : u.pool = s.pool := by
  have hqueued := queued_of_queue c fun d hd => (h.queue d).trans (if_neg hd)
  have hsplit := congrArg List.length (List.takeWhile_append_dropWhile (p := absentDest s) (l := l))
  rw [h.queue, if_pos rfl, hqueue] at hqueued
  rw [List.length_append] at hsplit
  unfold State.pool
  rw [h.dlt, h.txe.free]
  simp only [List.length_append, List.length_map]
  omega

/-- R110, R111: a sent unicast's buffer is AWAITING_ACK in place of QUEUED; a sent broadcast's stays QUEUED. -/
theorem pool_sendHead (k : Phase) (i : Fin 16) {c : Cls} {f : TxFrame} {rest : List TxFrame} {s : State}
    (hqueue : s.txe.queue c = f :: rest) : (sendHead k i c f rest s).pool = s.pool := by
  have hcounts : ∀ {q t}, HeadSent i c q s t → t.pool + s.dlt.retry.length + (rest.length + 1) =
      s.pool + t.dlt.retry.length + q.length := by
    intro q t h
    have hqueued := queued_of_queue c fun d hd => (h.queue d).trans (if_neg hd)
    rw [h.queue, if_pos rfl, hqueue, List.length_cons] at hqueued
    unfold State.pool
    rw [h.free, h.done]
    omega
  cases hdest : f.dest with
  | unicast d =>
    have h := sendHead_unicast k i c rest s hdest
    have hmoved := hcounts h.head
    rw [h.retry, List.length_append, List.length_singleton] at hmoved
    omega
  | broadcast =>
    have h := sendHead_broadcast k i c rest s hdest
    have hstays := hcounts h.head
    rw [h.retry, List.length_cons] at hstays
    omega

theorem pool_walk (k : Phase) (n : Nat) (i : Fin 16) (s : State) : (walk k n i s).pool = s.pool := by
  induction n generalizing i s with
  | zero => rfl
  | succ n ih =>
    have hdropped := (headsDropped s.txe.pattern[i] _ s).pool rfl
    unfold walk
    dsimp only
    split
    · exact (ih _ _).trans hdropped
    · rename_i f rest hqueue
      split
      · exact (pool_sendHead k i hqueue).trans hdropped
      · exact (ih _ _).trans hdropped

theorem pool_select (k : Phase) (s : State) : (select k s).pool = s.pool := by
  unfold select
  split
  · simp [retransmit, State.pool]
  · exact pool_walk k 16 _ s

/-! ## The pool at a close and at the expiry of a timer -/

/-- R50. -/
theorem pool_decideOwn (s : State) : (decideOwn s).pool = s.pool := by
  unfold decideOwn
  (repeat' split)
  · rfl
  · exact pool_departAtClose s.own .restarted s
  all_goals rfl

/-- R49. -/
theorem pool_decidePeer (a : Addr) (s : State) : (decidePeer a s).pool = s.pool := by
  unfold decidePeer
  (repeat' split)
  · exact pool_departAtClose a .timeout s
  · rfl
  · exact pool_departAtClose a .left s
  · exact pool_departAtClose a .restarted s
  all_goals rfl

theorem pool_membershipStage (s : State) : (membershipStage s).pool = s.pool := by
  have hone : ∀ u a, (decideMember u a).pool = u.pool := by
    intro u a
    unfold decideMember
    split
    · exact pool_decideOwn u
    · exact pool_decidePeer a u
  unfold membershipStage
  dsimp only
  refine (pool_congr (State.withRcm_txe ..) (State.withRcm_dlt ..)).trans ?_
  exact foldl_keeps State.pool _ hone _ _

theorem pool_close (s : State) : (close s).pool = s.pool := by
  have hsettled : (closeSettled s).pool = s.pool :=
    (pool_congr (by simp [closeSettled, closeTabled]) (by simp [closeSettled, closeTabled])).trans
      (pool_membershipStage s)
  rw [close_eq]
  split
  · exact (pool_congr (by simp) (by simp)).trans hsettled
  · exact hsettled

/-- R90, R94. -/
theorem pool_listenTimerExpiry {s t : State} (ht : exec .listenTimerExpiry s = .next t) : t.pool = s.pool := by
  obtain rfl := next_inj ht
  (repeat' split)
  · rfl
  · exact pool_withdrawNow s
  · exact (pool_congr (by simp) (by simp)).trans (pool_closeEntries s)
  · rfl
  · rfl

/-- R91, R92. -/
theorem pool_takeoverTimerExpiry {s t : State} (ht : exec .takeoverTimerExpiry s = .next t) : t.pool = s.pool := by
  obtain rfl := next_inj ht
  (repeat' split)
  · exact (pool_produceCycleStart _).trans rfl
  · exact pool_withdrawNow s
  · exact (pool_produceCycleStart _).trans rfl
  · rfl
  · rfl

theorem pool_lineFaultTimerExpiry {s t : State} (g : Bool) (ht : exec (.lineFaultTimerExpiry g) s = .next t) :
    t.pool = s.pool := by
  obtain rfl := next_inj ht
  (repeat' split)
  · exact pool_congr (by simp) (by simp)
  · rfl
  · exact (pool_fatal _ _ _).trans rfl
  · rfl

/-- R14, R85, R89. -/
theorem pool_cycleStart {s t : State} (ht : exec .cycleStart s = .next t) : t.pool = s.pool := by
  obtain rfl := next_inj ht
  dsimp only
  (repeat' split)
  · exact (pool_congr (by simp) (by simp)).trans (show (foldMark s).pool = s.pool from rfl)
  · exact (pool_produceCycleStart _).trans rfl
  · exact (pool_produceCycleStart _).trans rfl
  · rfl

/-- R11, R86: the read-back of the own marker moves no buffer. -/
theorem pool_ownMarkerReadBack {s t : State} (r : Reception) (ht : exec (.ownMarkerReadBack r) s = .next t) :
    t.pool = s.pool := by
  obtain rfl := next_inj ht
  split
  · dsimp only
    (repeat' split) <;> exact pool_congr (by simp) (by simp)
  · rfl

end Sys2Proof.Machine

namespace Sys2Proof.Machine

/-! ## The pool behind resets, START and the host port (R98, R100, R168) -/

theorem pool_resetTo (f : Fru) (st : StartStep) (c : Bool) (s : State) : (resetTo f st c s).pool = 48 := rfl

/-- R166: START sets patterns, not buffers. -/
theorem pool_finishStart (c : Configuration) (src : ConfigSource) (why : Option FailReason) (s : State) :
    (finishStart c src why s).pool = s.pool := by
  have hleave : ∀ u, (leaveStart u).pool = u.pool := fun _ => pool_congr (by simp) (by simp)
  have hfault : ∀ u, (recordFault .configDefaulted .none u).pool = u.pool := fun _ => pool_congr (by simp) (by simp)
  unfold finishStart
  dsimp only
  refine (hleave _).trans ?_
  split
  · exact (hfault _).trans rfl
  · rfl

theorem pool_attemptFailed (why : FailReason) (s : State) : (attemptFailed why s).pool = s.pool := by
  unfold attemptFailed
  split
  · rfl
  · exact pool_finishStart _ _ _ s

theorem pool_beginAttempt (n : Nat) (s : State) : (beginAttempt n s).pool = s.pool := by
  unfold beginAttempt
  dsimp only
  split
  · rfl
  · exact (pool_attemptFailed _ _).trans rfl

theorem pool_start {s t : State} (p : Straps) (n : Nat) (ht : exec (.start p n) s = .next t) : t.pool = s.pool := by
  obtain rfl := next_inj ht
  dsimp only
  (repeat' split)
  · exact (pool_beginAttempt n _).trans rfl
  · exact (pool_finishStart _ _ _ _).trans rfl
  · rfl

theorem pool_readAttemptEnd {s t : State} (r : ReadAttempt) (ht : exec (.readAttemptEnd r) s = .next t) :
    t.pool = s.pool := by
  obtain rfl := next_inj ht
  dsimp only
  (repeat' split)
  · exact (pool_finishStart _ _ _ _).trans rfl
  · exact (pool_finishStart _ _ _ _).trans rfl
  · exact (pool_attemptFailed _ _).trans rfl
  · rfl

/-- R168, R175: a soft reset makes all buffers FREE. -/
theorem pool_transactionEnd {s t : State} (n : Nat) (ht : exec (.transactionEnd n) s = .next t) :
    t.pool = s.pool ∨ t.pool = 48 := by
  obtain rfl := next_inj ht
  (repeat' split)
  · exact .inl rfl
  · exact .inr (pool_resetTo s.fru .sampling false s)
  · exact .inl (pool_congr (by simp) (by simp))
  · exact .inl rfl

/-- R172: a request moves buffers where its rule does. -/
theorem pool_takeRequest {s : State} (code : Byte) (ok : Bool) (args : List Byte) {rule : State → Result}
    (h : (rule s).state.pool = s.pool) : (takeRequest code ok args rule s).pool = s.pool :=
  takeRequest_keeps State.pool (fun _ _ => rfl) code ok args rule s h

/-- R98: the pushed buffer is QUEUED in place of FREE. -/
theorem pool_pushed (c : Cls) (f : TxFrame) (s : State) (hfree : s.txe.free ≠ 0) :
    (s.withTxe (s.txe.pushed c f)).pool = s.pool := by
  have hqueue := fun d => setQueue_queue { s.txe with free := s.txe.free - 1 } c d (s.txe.queue c ++ [f])
  have hqueued := queued_of_queue (t := s.txe) (u := s.txe.pushed c f) c fun d hd =>
    (hqueue d).trans ((if_neg hd).trans (queue_congr rfl rfl rfl rfl d))
  have hown : (s.txe.pushed c f).queue c = s.txe.queue c ++ [f] := (hqueue c).trans (if_pos rfl)
  have hleft : (s.txe.pushed c f).free = s.txe.free - 1 := (queuesOnly_setQueue ..).free
  rw [hown, List.length_append, List.length_singleton] at hqueued
  unfold State.pool
  rw [State.withTxe_txe, State.withTxe_dlt, hleft]
  omega

/-- R98: an accepted PUSH makes a FREE buffer QUEUED. -/
theorem pool_pushRule (args : List Byte) (s : State) : (pushRule args s).state.pool = s.pool := by
  unfold pushRule
  (repeat' split)
  · rfl
  · rfl
  · rename_i hfree
    exact pool_pushed _ _ s hfree
  · rfl

/-- R100, R174: the head of the completion list becomes FREE. -/
theorem pool_freeHead (s : State) : (freeHead s).pool = s.pool := by
  unfold freeHead
  split
  · rfl
  · rename_i d rest hdone
    simp only [State.pool, State.withTxe_txe, State.withTxe_dlt, State.withDlt_dlt, hdone, List.length_cons,
      Txe.queued]
    omega

/-- R98, R100: of the commands of the host port that reach neither the line nor the sync state, PUSH and the commit of
POP_DONE move a buffer each. -/
theorem pool_portOnly {i : Instr} {s t : State} (hi : portOnly i = true) (ht : exec i s = .next t) :
    t.pool = s.pool := by
  cases i with
  | transactionBegin _ | badRequest _ _ | popRxCommit =>
    obtain rfl := next_inj ht
    (repeat' split) <;> rfl
  | popDoneCommit =>
    obtain rfl := next_inj ht
    (repeat' split)
    · rfl
    · exact pool_freeHead s
    · rfl
  | push args => obtain rfl := next_inj ht; exact pool_takeRequest _ _ _ (pool_pushRule args s)
  | status _ | readFaults _ | clearFaults _ | readEvents _ | applyPattern _ | softReset _ | readConfig _ =>
    obtain rfl := next_inj ht
    exact pool_takeRequest _ _ _ rfl
  | popRx _ | popDone _ | releaseAll _ =>
    obtain rfl := next_inj ht
    apply pool_takeRequest
    split <;> rfl
  | claim _ | claimAt _ | release _ | readTable _ | ackEvents _ | setEnables _ | stagePattern _ =>
    obtain rfl := next_inj ht
    apply pool_takeRequest
    dsimp only [claimRule, claimAtRule, releaseRule, readTableRule, ackEventsRule, setEnablesRule, stagePatternRule]
    (repeat' split) <;> rfl
  | _ => cases hi

theorem pool_join {s t : State} (args : List Byte) (ht : exec (.join args) s = .next t) : t.pool = s.pool := by
  obtain rfl := next_inj ht
  apply pool_takeRequest
  split
  · exact pool_congr (by simp [accept]) (by simp [accept])
  · rfl

theorem pool_withdraw {s t : State} (args : List Byte) (ht : exec (.withdraw args) s = .next t) :
    t.pool = s.pool := by
  obtain rfl := next_inj ht
  apply pool_takeRequest
  unfold withdrawRule
  split
  case h_4 | h_5 => exact pool_withdrawNow s
  all_goals rfl

/-- R97, R168: every command keeps the count of the buffers, or resets it to 48. -/
theorem exec_pool {i : Instr} {s t : State} (ht : exec i s = .next t) : t.pool = s.pool ∨ t.pool = 48 := by
  have hrx : ∀ b, (s.withLif { s.lif with rx := b }).pool = s.pool := fun _ => rfl
  cases i with
  | powerOnReset | pinReset => obtain rfl := next_inj ht; exact .inr (pool_resetTo _ _ _ s)
  | transactionEnd n => exact pool_transactionEnd n ht
  | start p n => exact .inl (pool_start p n ht)
  | readAttemptEnd r => exact .inl (pool_readAttemptEnd r ht)
  | sclHoldTimeout n =>
    obtain rfl := next_inj ht
    split
    · exact .inl ((pool_attemptFailed _ _).trans rfl)
    · exact .inl rfl
  | retryWaitExpiry n =>
    obtain rfl := next_inj ht
    split
    · exact .inl (pool_beginAttempt n s)
    · exact .inl rfl
  | join args => exact .inl (pool_join args ht)
  | withdraw args => exact .inl (pool_withdraw args ht)
  | markerReceived b o p g =>
    obtain rfl := next_inj ht
    exact .inl (hear_leads (P := fun u => u.pool = s.pool) rfl (fun _ => hrx _) (fun _ => pool_takeMarkerBytes o g _ s)
      (fun _ => (pool_takeMarkerBytes o g _ _).trans (hrx none)))
  | rollWordReceived k b p g =>
    obtain rfl := next_inj ht
    exact .inl (hear_leads (P := fun u => u.pool = s.pool) rfl (fun _ => hrx _) (fun _ => pool_takeRollBytes k g _ s)
      (fun _ => (pool_takeRollBytes k g _ _).trans (hrx none)))
  | dataFrameReceived k b p g =>
    obtain rfl := next_inj ht
    exact .inl (hear_leads (P := fun u => u.pool = s.pool) rfl (fun _ => hrx _) (fun _ => pool_takeDataBytes k g _ s)
      (fun _ => (pool_takeDataBytes k g _ _).trans (hrx none)))
  | markerSlotEnd g | rollSlotDamaged k g | dataPhaseDamaged k g =>
    obtain rfl := next_inj ht
    dsimp only
    (repeat' split) <;> exact .inl (pool_congr (by simp) (by simp))
  | ownMarkerReadBack r => exact .inl (pool_ownMarkerReadBack r ht)
  | ownRollReadBack r => exact .inl (pool_ownRollReadBack r ht)
  | ownDataReadBack r => exact .inl (pool_ownDataReadBack r ht)
  | cycleStart => exact .inl (pool_cycleStart ht)
  | ownRollSlot =>
    obtain rfl := next_inj ht
    (repeat' split) <;> exact .inl rfl
  | leaveSlotEnd =>
    obtain rfl := next_inj ht
    split
    · exact .inl (pool_withdrawNow s)
    · exact .inl rfl
  | rollCallClose =>
    obtain rfl := next_inj ht
    split
    · exact .inl (pool_close s)
    · exact .inl rfl
  | dataPhase k =>
    obtain rfl := next_inj ht
    split
    · exact .inl (pool_select k s)
    · exact .inl rfl
  | listenTimerExpiry => exact .inl (pool_listenTimerExpiry ht)
  | takeoverTimerExpiry => exact .inl (pool_takeoverTimerExpiry ht)
  | lineFaultTimerExpiry g => exact .inl (pool_lineFaultTimerExpiry g ht)
  | _ => exact .inl (pool_portOnly rfl ht)

/-- Settles O50: a step is a command or a clock of the port, and each keeps the count or makes all 48 buffers FREE. -/
theorem thePoolKeepsItsBuffers : Obligations.ThePoolKeepsItsBuffers :=
  step_keeps (P := fun s => s.pool = 48) (fun _ _ h => h) (fun _ _ _ h => h) fun _ _ _ h ht =>
    (exec_pool ht).elim (·.trans h) id

end Sys2Proof.Machine

namespace Sys2Proof.Machine

/-! ## Frames for this station (R119, R121) -/

/-- R119: check 2. -/
theorem checkDataFrame_for_another {k : Phase} {f : DataFrame} {s : State} (hs : f.source ≤ 31#8) (hc : f.cls ≤ 3#8)
    (hown : f.dest ≠ finByte s.own) (hall : f.dest ≠ 63#8) : checkDataFrame k f s = s := by
  obtain ⟨a, ha⟩ : ∃ a, addrOf f.source = some a := by
    refine Option.ne_none_iff_exists'.mp fun hn => ?_
    have := (addrOf_eq_none _).mp hn
    bv_omega
  obtain ⟨c, hc⟩ := clsOf_of_le hc
  unfold checkDataFrame
  rw [ha, hc]
  exact if_pos ⟨hown, hall⟩

/-- R117: what becomes of a data frame that RXE is handed in ACTIVE. -/
theorem dataFrameReceived_active {k : Phase} {frame : List Byte} {f : DataFrame} {s : State}
    (ha : s.sync.state = .active) (ht : s.slotTiming = true)
    (htx : ∀ c b, s.lif.tx ≠ some { frame := .data k c, bytes := b }) (hd : s.lif.phaseDone[k] = false)
    (hf : parseDataFrame frame = some f) :
    exec (.dataFrameReceived k frame) s = .next (checkDataFrame k f (phaseHad k s)) := by
  rw [dataFrameReceived_handed ((handedToRxe_iff k s).mpr ⟨ht, hd, htx⟩), hf,
    (actOnPhase_active (s := phaseHad k s) ha).2]

/-- Settles O33: the frame passes check 1 and ends at check 2. -/
theorem frameForAnotherStationIsDiscarded : Obligations.FrameForAnotherStationIsDiscarded := by
  intro k frame f s ha ht htx hd hf hs hc hown hall
  rw [dataFrameReceived_active ha ht htx hd hf, checkDataFrame_for_another (s := phaseHad k s) hs hc hown hall]
  rfl

end Sys2Proof.Machine

namespace Sys2Proof.Machine

/-! ## The ack list (R125, R128) -/

theorem any_source {a : Addr} {l : List (Addr × Byte)} :
    (l.any fun p => p.1 == a) = true ↔ ∃ p ∈ l, p.1 = a := by
  simp only [List.any_eq_true, beq_iff_eq]

theorem giveDuplicateAck_eq (a : Addr) (q : Byte) (l : List (Addr × Byte)) :
    giveDuplicateAck a q l = if ∃ p ∈ l, p.1 = a then l else l ++ [(a, q)] :=
  if_congr any_source rfl rfl

theorem giveAck_new {a : Addr} {l : List (Addr × Byte)} (q : Byte) (h : ∀ p ∈ l, p.1 ≠ a) :
    giveAck a q l = l ++ [(a, q)] :=
  if_neg fun hany => by
    obtain ⟨p, hp, hpa⟩ := any_source.mp hany
    exact h p hp hpa

/-- R128: an entry for the source keeps its place. -/
theorem giveAck_held {a : Addr} {before after : List (Addr × Byte)} (q v : Byte)
    (h : ∀ p ∈ before ++ after, p.1 ≠ a) :
    giveAck a q (before ++ (a, v) :: after) = before ++ (a, q) :: after := by
  have hothers : ∀ l : List (Addr × Byte), (∀ p ∈ l, p.1 ≠ a) → (l.map fun p => if p.1 = a then (a, q) else p) = l :=
    fun l hl => (List.map_congr_left fun p hp => if_neg (hl p hp)).trans (List.map_id' l)
  refine (if_pos (any_source.mpr ⟨(a, v), by simp, rfl⟩)).trans ?_
  rw [List.map_append, List.map_cons, hothers before fun p hp => h p (by simp [hp]),
    hothers after fun p hp => h p (by simp [hp]), if_pos rfl]

/-! ## A frame joins the receive queue (R123 to R127) -/

/-- R126, R127: what joining the queue does. -/
theorem enqueueRx_eq (r : RxRecord) (s : State) : enqueueRx r s = { s with
    rxe := { s.rxe with queue := s.rxe.queue ++ [r] }
    hp := { s.hp with events := if s.rxe.queue = [] then s.hp.events ||| 0x001#9 else s.hp.events } } := by
  unfold enqueueRx
  cases h : s.rxe.queue <;> simp [post, State.withRxe, State.withHp, Event.bit, Event.index]

/-- R123, R126 to R128: a unicast frame joins the queue, becomes the last accepted one and gives its ack. -/
def acceptUnicast (r : RxRecord) (s : State) : State := { s with
  rxe := {
    queue := s.rxe.queue ++ [r]
    lastAcc := s.rxe.lastAcc.set r.source (some r.seq)
    acks := giveAck r.source r.seq s.rxe.acks }
  hp := { s.hp with events := if s.rxe.queue = [] then s.hp.events ||| 0x001#9 else s.hp.events } }

/-- R125: a duplicate. -/
theorem receiveUnicast_duplicate (r : RxRecord) {s : State} (ctx : FaultCtx)
    (h : s.rxe.lastAcc[r.source] = some r.seq) : receiveUnicast r ctx s =
      s.withRxe { s.rxe with acks := giveDuplicateAck r.source r.seq s.rxe.acks } :=
  if_pos h

/-- R126: no room. -/
theorem receiveUnicast_full (r : RxRecord) {s : State} (ctx : FaultCtx)
    (h : s.rxe.lastAcc[r.source] ≠ some r.seq) (hfull : 32 ≤ s.rxe.queue.length) :
    receiveUnicast r ctx s = recordFault .rxOverflow ctx s :=
  (if_neg h).trans (if_pos hfull)

/-- R123: an accepted frame, behind a gap or not. -/
theorem receiveUnicast_accepted (r : RxRecord) {s : State} (ctx : FaultCtx)
    (h : s.rxe.lastAcc[r.source] ≠ some r.seq) (hroom : s.rxe.queue.length < 32) :
    receiveUnicast r ctx s =
      if gapAfter s.rxe.lastAcc[r.source] r.seq then recordFault .sequenceGap ctx (acceptUnicast r s)
      else acceptUnicast r s := by
  have hfull : ¬Config.rxQueueSize ≤ s.rxe.queue.length := Nat.not_le.mpr hroom
  unfold receiveUnicast
  rw [if_neg h, if_neg hfull, enqueueRx_eq]
  rfl

theorem receiveBroadcast_full {r : RxRecord} {s : State} (ctx : FaultCtx) (hfull : 32 ≤ s.rxe.queue.length) :
    receiveBroadcast r ctx s = recordFault .rxOverflow ctx s :=
  if_pos hfull

theorem receiveBroadcast_accepted {r : RxRecord} {s : State} (ctx : FaultCtx) (hroom : s.rxe.queue.length < 32) :
    receiveBroadcast r ctx s = enqueueRx r s :=
  if_neg (Nat.not_le.mpr hroom)

/-- R121, R126: the record of a frame that address `a` has sent in phase `k` of cycle `n`. -/
def rxRecordOf (k : Phase) (f : DataFrame) (a : Addr) (d : Dest) (c : Cls) (n : Half) : RxRecord :=
  { source := a, dest := d, cls := c, seq := f.seq, payload := f.payload, cycle := n, phase := k }

/-- R118 to R121: a frame from the owner of its phase passes checks 1 to 3. -/
theorem checkDataFrame_from_owner {k : Phase} {f : DataFrame} {a : Addr} {c : Cls} {s : State}
    (hs : f.source = finByte a) (hc : f.cls = c.byte) (hd : f.dest = finByte s.own ∨ f.dest = 63#8)
    (ha : a ≠ s.own) (ho : s.ptu.table[k] = .owned a) :
    checkDataFrame k f s =
      let r := rxRecordOf k f a (if f.dest = 63#8 then .broadcast else .unicast s.own) c s.cycle
      let ctx := FaultCtx.frame f.source f.dest f.cls f.seq
      if f.dest = 63#8 then receiveBroadcast r ctx s else receiveUnicast r ctx s := by
  have hdest : ¬(f.dest ≠ finByte s.own ∧ f.dest ≠ 63#8) := by tauto
  have howner : ¬(s.ptu.table[k].owner ≠ some a ∨ a = s.own) := by
    rintro (h | h)
    · exact h (owner_eq_some.mpr ho)
    · exact ha h
  have hsource : addrOf f.source = some a := by rw [hs, addrOf_finByte]
  have hclass : clsOf f.cls = some c := by rw [hc, clsOf_byte]
  unfold checkDataFrame
  rw [hsource, hclass]
  exact (if_neg hdest).trans (if_neg howner)

/-- R5, R118 to R120: what the two clauses suppose of a frame of phase `k` whose destination is heard: an ACTIVE station
is handed the one reception of the phase, and the frame is that of the owner, another station. -/
structure FrameFromOwner (k : Phase) (frame : List Byte) (f : DataFrame) (a : Addr) (c : Cls) (n : Half) (s : State) :
    Prop where
  active : s.sync.state = .active
  timing : s.slotTiming = true
  undriven : ∀ c b, s.lif.tx ≠ some { frame := .data k c, bytes := b }
  unheard : s.lif.phaseDone[k] = false
  number : s.sync.cycleNumber = some n
  parsed : parseDataFrame frame = some f
  source : f.source = finByte a
  cls : f.cls = c.byte
  other : a ≠ s.own
  owner : s.ptu.table[k] = .owned a

section
variable {k : Phase} {frame : List Byte} {f : DataFrame} {a : Addr} {c : Cls} {n : Half} {s : State}

theorem FrameFromOwner.received (h : FrameFromOwner k frame f a c n s)
    (hd : f.dest = finByte s.own ∨ f.dest = 63#8) : exec (.dataFrameReceived k frame) s = .next (
      let r := rxRecordOf k f a (if f.dest = 63#8 then .broadcast else .unicast s.own) c n
      let ctx := FaultCtx.frame f.source f.dest f.cls f.seq
      if f.dest = 63#8 then receiveBroadcast r ctx (phaseHad k s) else receiveUnicast r ctx (phaseHad k s)) := by
  have hcycle : s.cycle = n := by rw [State.cycle, h.number]; rfl
  rw [dataFrameReceived_active h.active h.timing h.undriven h.unheard h.parsed,
    checkDataFrame_from_owner (s := phaseHad k s) h.source h.cls hd h.other h.owner, ← hcycle]
  rfl

/-- R123 to R125: the unicast frame is taken with the phase's one reception had. -/
theorem FrameFromOwner.unicast (h : FrameFromOwner k frame f a c n s) (hd : f.dest = finByte s.own) :
    exec (.dataFrameReceived k frame) s = .next (receiveUnicast (rxRecordOf k f a (.unicast s.own) c n)
      (.frame f.source f.dest f.cls f.seq) (phaseHad k s)) := by
  have hne : f.dest ≠ 63#8 := hd ▸ finByte_ne_broadcast s.own
  rw [h.received (.inl hd)]
  simp only [if_neg hne]

/-- R121: so is the broadcast. -/
theorem FrameFromOwner.broadcast (h : FrameFromOwner k frame f a c n s) (hd : f.dest = 63#8) :
    exec (.dataFrameReceived k frame) s = .next (receiveBroadcast (rxRecordOf k f a .broadcast c n)
      (.frame f.source 63#8 f.cls f.seq) (phaseHad k s)) := by
  rw [h.received (.inr hd)]
  simp only [hd, if_true]

end

/-- Settles O34: a unicast by its three cases, a broadcast by its two. -/
theorem framesAccepted : Obligations.FramesAccepted := by
  refine ⟨fun k frame f a c n s w ha ht htx hd hw hn hf hs hc hdest hown ho => ?_,
    fun k frame f a c n s w ha ht htx hd hw hn hf hs hc hdest hown ho => ?_⟩ <;>
    obtain rfl : w = phaseHad k s := hw
  · let r := rxRecordOf k f a (.unicast s.own) c n
    rw [FrameFromOwner.unicast ⟨ha, ht, htx, hd, hn, hf, hs, hc, hown, ho⟩ hdest]
    refine ⟨fun hdup => ?_, fun hnew hfull => ?_, fun hnew hroom =>
      ⟨giveAck a f.seq s.rxe.acks, acceptUnicast r (phaseHad k s), giveAck_new f.seq,
        fun before after v hacks hothers => ?_, rfl, ?_⟩⟩
    · rw [receiveUnicast_duplicate r (s := phaseHad k s) _ hdup, giveDuplicateAck_eq]
      rfl
    · rw [receiveUnicast_full r (s := phaseHad k s) _ hnew hfull]
    · rw [hacks, giveAck_held f.seq v hothers]
    · rw [receiveUnicast_accepted r (s := phaseHad k s) _ hnew hroom]
      change Host.Outcome.next (if gapAfter s.rxe.lastAcc[a] f.seq then _ else _) = _
      cases s.rxe.lastAcc[a] with
      | none => rfl
      | some v => simp [gapAfter]
  · rw [FrameFromOwner.broadcast ⟨ha, ht, htx, hd, hn, hf, hs, hc, hown, ho⟩ hdest]
    refine ⟨fun hfull => ?_, fun hroom => ?_⟩
    · rw [receiveBroadcast_full (s := phaseHad k s) _ hfull]
    · rw [receiveBroadcast_accepted (s := phaseHad k s) _ hroom, enqueueRx_eq]
      rfl

end Sys2Proof.Machine

namespace Sys2Proof.Machine

/-! ## The receive side stays sound, operation by operation (R126, R128, R129) -/

/-- RXE has received nothing on its way from `x` to `y`: records may have been popped, acks sent and sources forgotten
(R37, R122, R127, R129). -/
structure NothingAdded (x y : Rxe) : Prop where
  queue : y.queue.length ≤ x.queue.length
  acks : y.acks.Sublist x.acks
  sequences : ∀ p ∈ y.acks, y.lastAcc[p.1] = x.lastAcc[p.1]

theorem NothingAdded.refl (x : Rxe) : NothingAdded x x := ⟨Nat.le_refl _, .refl _, fun _ _ => rfl⟩

/-- R122, R129: every source is forgotten. -/
theorem NothingAdded.fresh (x : Rxe) : NothingAdded x { x with lastAcc := Vector.replicate 32 none, acks := [] } :=
  ⟨Nat.le_refl _, List.nil_sublist _, fun _ h => absurd h List.not_mem_nil⟩

theorem NothingAdded.trans {x y z : Rxe} (h : NothingAdded x y) (h' : NothingAdded y z) : NothingAdded x z where
  queue := h'.queue.trans h.queue
  acks := h'.acks.trans h.acks
  sequences p hp := (h'.sequences p hp).trans (h.sequences p (h'.acks.subset hp))

theorem ReceiveSound.lessened {own : Addr} {x y : Rxe} (h : ReceiveSound own x) (hxy : NothingAdded x y) :
    ReceiveSound own y where
  atMost32 := hxy.queue.trans h.atMost32
  onePerSource := h.onePerSource.sublist hxy.acks
  notOwn p hp := h.notOwn p (hxy.acks.subset hp)
  asAccepted p hp := (hxy.sequences p hp).trans (h.asAccepted p (hxy.acks.subset hp))

/-- The station of `t` is that of `s`, and it has received nothing. -/
structure NothingReceived (s t : State) : Prop where
  own : t.own = s.own
  rxe : NothingAdded s.rxe t.rxe

theorem NothingReceived.of_same {s t : State} (hr : t.rxe = s.rxe) (hc : t.cfg = s.cfg) : NothingReceived s t :=
  ⟨by rw [State.own, hc]; rfl, by rw [hr]; exact .refl _⟩

theorem NothingReceived.of_fresh {s t : State}
    (hr : t.rxe = { s.rxe with lastAcc := Vector.replicate 32 none, acks := [] }) (hc : t.cfg = s.cfg) :
    NothingReceived s t :=
  ⟨by rw [State.own, hc]; rfl, by rw [hr]; exact .fresh _⟩

/-- R122, R129: the sources that depart are forgotten. -/
theorem NothingReceived.of_departed {s t : State} (departed : Addr → Bool) (hq : t.rxe.queue = s.rxe.queue)
    (ha : t.rxe.acks = s.rxe.acks.filter fun p => !departed p.1)
    (hl : ∀ a : Addr, t.rxe.lastAcc[a] = if departed a then none else s.rxe.lastAcc[a]) (hc : t.cfg = s.cfg) :
    NothingReceived s t where
  own := by rw [State.own, hc]; rfl
  rxe := by
    refine ⟨by rw [hq], by rw [ha]; exact List.filter_sublist, fun p hp => ?_⟩
    rw [ha, List.mem_filter] at hp
    obtain ⟨-, hstays⟩ := hp
    rw [hl, if_neg (by simpa using hstays)]

theorem NothingReceived.refl (s : State) : NothingReceived s s := .of_same rfl rfl

theorem NothingReceived.trans {s t u : State} (h : NothingReceived s t) (h' : NothingReceived t u) :
    NothingReceived s u := ⟨h'.own.trans h.own, h.rxe.trans h'.rxe⟩

/-- R126, R128: the receive side of a station is sound. -/
def ReceptionSound (s : State) : Prop := ReceiveSound s.own s.rxe

theorem ReceptionSound.kept {s t : State} (h : ReceptionSound s) (hk : NothingReceived s t) : ReceptionSound t := by
  unfold ReceptionSound
  rw [hk.own]
  exact ReceiveSound.lessened h hk.rxe

theorem nothingReceived_recordFault (k : FaultKind) (ctx : FaultCtx) (s : State) :
    NothingReceived s (recordFault k ctx s) := .of_same (by simp) (by simp)

theorem nothingReceived_withdrawNow (s : State) : NothingReceived s (withdrawNow s) := .of_fresh (by simp) (by simp)

theorem nothingReceived_fatal (k : FaultKind) (ctx : FaultCtx) (s : State) : NothingReceived s (fatal k ctx s) := by
  have hfault := nothingReceived_recordFault k ctx s
  unfold fatal
  dsimp only
  split
  · exact hfault.trans (nothingReceived_withdrawNow _)
  · exact hfault

/-! ## Markers (R47, R81, R83) -/

theorem nothingReceived_learningFailure (s : State) : NothingReceived s (learningFailure s) := by
  have hcounted : NothingReceived s (s.withPtu { s.ptu with learnAttempts := s.ptu.learnAttempts + 1 }) :=
    .of_same rfl rfl
  unfold learningFailure
  dsimp only
  split
  · exact hcounted.trans (.of_same (by simp) (by simp))
  · exact hcounted.trans (nothingReceived_fatal _ _ _)

theorem nothingReceived_markerCompare (m : Marker) (s : State) : NothingReceived s (markerCompare m s) := by
  unfold markerCompare
  (repeat' split)
  · exact .refl s
  · exact .of_same (by simp) (by simp)
  · exact .of_same (by simp) (by simp)
  · exact nothingReceived_learningFailure s
  · exact .refl s

theorem nothingReceived_adoptPresence (m : Marker) (s : State) : NothingReceived s (adoptPresence m s) := by
  obtain ⟨hsequences, hacks, hqueue⟩ := adoptPresence_rxe m s
  exact .of_departed (droppedBy m s) hqueue hacks hsequences (by simp)

theorem nothingReceived_displacementTest (s : State) : NothingReceived s (displacementTest s) := by
  have hfault := nothingReceived_recordFault .displaced .none s
  unfold displacementTest
  dsimp only
  (repeat' split)
  · exact hfault.trans (nothingReceived_withdrawNow _)
  · exact hfault.trans (.of_fresh (by simp [forgetPeers_rxe]) (by simp))
  · exact hfault.trans (.of_fresh (by simp [forgetPeers_rxe]) (by simp))
  · exact .refl s

theorem nothingReceived_takeMarker (m : Marker) (o : Int) (restart : Bool) (s : State) :
    NothingReceived s (takeMarker m o restart s) := by
  have hlearn : NothingReceived s (markerLearn (markerTiming m o restart s)) := .of_same (by simp) (by simp)
  have hcompared := hlearn.trans (nothingReceived_markerCompare m _)
  unfold takeMarker
  dsimp only
  split
  · exact hcompared
  · exact ((hcompared.trans (nothingReceived_adoptPresence m _)).trans (nothingReceived_displacementTest _)).trans
      (.of_same (by simp) (by simp))

theorem nothingReceived_handleMarker (m : Marker) (o : Int) (s : State) : NothingReceived s (handleMarker m o s) := by
  have hdrop : NothingReceived s (dropHolder s) := .of_same (by simp) (by simp)
  unfold handleMarker
  (repeat' split)
  · exact .refl s
  · exact nothingReceived_fatal _ _ s
  · exact nothingReceived_takeMarker _ _ _ s
  · exact hdrop.trans (nothingReceived_takeMarker _ _ _ _)
  · exact .refl s
  · exact nothingReceived_takeMarker _ _ _ s
  · exact nothingReceived_takeMarker _ _ _ s
  · exact .refl s

theorem nothingReceived_takeMarkerBytes (o : Int) (g : Bool) (b : List Byte) (s : State) :
    NothingReceived s (takeMarkerBytes o g b s) := by
  unfold takeMarkerBytes
  (repeat' split)
  · exact .refl s
  · exact nothingReceived_recordFault _ _ s
  · exact .refl s
  · exact nothingReceived_handleMarker _ _ s

/-! ## Roll words (R37, R39, R41) -/

theorem nothingReceived_checkRollWord (k : Addr) (w : RollWord) (s : State) :
    NothingReceived s (checkRollWord k w s) := by
  unfold checkRollWord
  (repeat' split)
  · exact nothingReceived_recordFault _ _ s
  · exact nothingReceived_fatal _ _ s
  · exact nothingReceived_recordFault _ _ s
  · exact nothingReceived_recordFault _ _ s
  · exact .of_same (by simp) (by simp)

theorem nothingReceived_takeRollBytes (k : Addr) (g : Bool) (b : List Byte) (s : State) :
    NothingReceived s (takeRollBytes k g b s) := by
  have hhad : NothingReceived s (rollHad k s) := .of_same rfl rfl
  unfold takeRollBytes
  (repeat' split)
  · exact nothingReceived_recordFault _ _ s
  · exact .of_same (by simp) (by simp)
  · exact .refl s
  · exact hhad.trans (nothingReceived_recordFault _ _ _)
  · exact hhad.trans (nothingReceived_checkRollWord _ _ _)
  · exact .refl s

theorem nothingReceived_rollCollision (s : State) : NothingReceived s (rollCollision s) := by
  have hcounted : NothingReceived s (s.withRcm { s.rcm with ownCollisions := s.rcm.ownCollisions + 1 }) :=
    .of_same rfl rfl
  unfold rollCollision
  dsimp only
  split
  · exact hcounted
  · exact hcounted.trans (nothingReceived_fatal _ _ _)

/-- R11, R39. -/
theorem nothingReceived_ownRollReadBack {s t : State} (r : Reception) (ht : exec (.ownRollReadBack r) s = .next t) :
    NothingReceived s t := by
  have hcut : NothingReceived s (rollHad s.own (cutTransmission s)) := .of_same rfl rfl
  obtain rfl := next_inj ht
  split
  · dsimp only
    (repeat' split)
    · exact hcut
    · exact .of_same rfl rfl
    · exact hcut.trans (nothingReceived_fatal _ _ _)
    · exact hcut.trans (nothingReceived_rollCollision _)
  · exact .refl s

/-- R37: the acks that a roll word takes along leave the list. -/
theorem NothingReceived.of_acks_sent {s t : State} (hr : t.rxe = { s.rxe with acks := s.rxe.acks.drop 4 })
    (hc : t.cfg = s.cfg) : NothingReceived s t :=
  ⟨by rw [State.own, hc]; rfl, by rw [hr]; exact ⟨Nat.le_refl _, List.drop_sublist _ _, fun _ _ => rfl⟩⟩

theorem nothingReceived_ownRollSlot {s t : State} (ht : exec .ownRollSlot s = .next t) : NothingReceived s t := by
  obtain rfl := next_inj ht
  (repeat' split)
  case h_1 => exact .of_same rfl rfl
  case h_2.isTrue | h_2.isFalse | h_3.isTrue | h_3.isFalse => exact .of_acks_sent rfl rfl
  all_goals exact .refl s

/-! ## The close and the timers (R51, R90 to R92) -/

theorem closeDecided_queue (s : State) : (closeDecided s).rxe.queue = s.rxe.queue := by
  refine foldl_keeps (fun u => u.rxe.queue) _ (fun u a => ?_) _ _
  unfold closeAddress departFor
  (repeat' split) <;> simp [departAtClose_rxe]

theorem nothingReceived_close (s : State) : NothingReceived s (close s) := by
  obtain ⟨-, -, hrxe⟩ := close_fields s
  refine .of_departed (departs s) ?_ ?_ (fun a => ?_) (by simp) <;> rw [hrxe]
  · exact closeDecided_queue s
  · exact closeDecided_acks s
  · exact closeDecided_lastAcc s a

theorem nothingReceived_listenTimerExpiry {s t : State} (ht : exec .listenTimerExpiry s = .next t) :
    NothingReceived s t := by
  obtain rfl := next_inj ht
  (repeat' split)
  · exact .of_same rfl rfl
  · exact nothingReceived_withdrawNow s
  · exact .of_fresh (by simp) (by simp)
  · exact .refl s
  · exact .refl s

theorem nothingReceived_takeoverTimerExpiry {s t : State} (ht : exec .takeoverTimerExpiry s = .next t) :
    NothingReceived s t := by
  obtain rfl := next_inj ht
  (repeat' split)
  · exact .of_same (by simp) (by simp)
  · exact nothingReceived_withdrawNow s
  · exact .of_same (by simp) (by simp)
  · exact .refl s
  · exact .refl s

theorem nothingReceived_lineFaultTimerExpiry {s t : State} (g : Bool)
    (ht : exec (.lineFaultTimerExpiry g) s = .next t) : NothingReceived s t := by
  have hstopped : NothingReceived s (s.withLif { s.lif with lineFaultTimer := .stopped }) := .of_same rfl rfl
  obtain rfl := next_inj ht
  (repeat' split)
  · exact nothingReceived_recordFault _ _ s
  · exact .refl s
  · exact hstopped.trans (nothingReceived_fatal _ _ _)
  · exact .refl s

/-! ## START (R160 to R167) -/

theorem nothingAdded_finishStart (c : Configuration) (src : ConfigSource) (why : Option FailReason) (s : State) :
    NothingAdded s.rxe (finishStart c src why s).rxe := by
  have hleave : ∀ u, NothingAdded u.rxe (leaveStart u).rxe := by
    intro u
    unfold leaveStart
    dsimp only
    split
    · exact .fresh _
    · exact .refl _
  unfold finishStart
  dsimp only
  refine .trans ?_ (hleave _)
  split <;> simp [NothingAdded.refl]

theorem nothingAdded_attemptFailed (why : FailReason) (s : State) : NothingAdded s.rxe (attemptFailed why s).rxe := by
  unfold attemptFailed
  split
  · exact .refl _
  · exact nothingAdded_finishStart _ _ _ s

theorem nothingAdded_beginAttempt (n : Nat) (s : State) : NothingAdded s.rxe (beginAttempt n s).rxe := by
  unfold beginAttempt
  dsimp only
  split
  · exact .refl _
  · refine .trans ?_ (nothingAdded_attemptFailed _ _)
    exact .refl _

/-- R168, R169: until START ends RXE stands at its reset values, so that every own address suits it. -/
theorem StartSound.receptionSound {s t : State} (hst : StartSound s) (hs : s.cfg.step ≠ .done)
    (hr : NothingAdded s.rxe t.rxe) : ReceptionSound t := by
  obtain ⟨-, -, -, -, -, -, -, hrxe⟩ := hst hs
  rw [hrxe] at hr
  exact (receiveSound_reset t.own).lessened hr

theorem receptionSound_start {s t : State} (hst : StartSound s) (h : ReceptionSound s) (p : Straps) (n : Nat)
    (ht : exec (.start p n) s = .next t) : ReceptionSound t := by
  obtain rfl := next_inj ht
  split
  · rename_i hs
    refine hst.receptionSound (by rcases hs with hs | hs <;> simp [hs]) ?_
    dsimp only
    split
    · refine .trans ?_ (nothingAdded_beginAttempt n _)
      exact .refl _
    · refine .trans ?_ (nothingAdded_finishStart _ _ _ _)
      exact .refl _
  · exact h

theorem receptionSound_readAttemptEnd {s t : State} (hst : StartSound s) (h : ReceptionSound s) (r : ReadAttempt)
    (ht : exec (.readAttemptEnd r) s = .next t) : ReceptionSound t := by
  obtain rfl := next_inj ht
  split
  · rename_i hs
    refine hst.receptionSound (by simp [hs]) ?_
    dsimp only
    (repeat' split)
    · exact nothingAdded_finishStart _ _ _ (onBus _ s)
    · exact nothingAdded_finishStart _ _ _ (onBus _ s)
    · exact nothingAdded_attemptFailed _ (onBus _ s)
  · exact h

theorem receptionSound_resetTo (f : Fru) (st : StartStep) (c : Bool) (s : State) :
    ReceptionSound (resetTo f st c s) := receiveSound_reset _

/-! ## Requests (R93, R94, R127, R174) -/

theorem nothingReceived_takeRequest {s : State} (code : Byte) (ok : Bool) (args : List Byte) {rule : State → Result}
    (hr : NothingReceived s (rule s).state) : NothingReceived s (takeRequest code ok args rule s) := by
  rcases takeRequest_cases code ok args rule s with he | ⟨st, he⟩ | ⟨-, he⟩ <;> rw [he]
  · exact .refl s
  · exact .of_same rfl rfl
  · exact hr.trans (.of_same rfl rfl)

theorem nothingReceived_join {s t : State} (args : List Byte) (ht : exec (.join args) s = .next t) :
    NothingReceived s t := by
  obtain rfl := next_inj ht
  refine nothingReceived_takeRequest _ _ _ ?_
  split
  · exact .of_fresh rfl rfl
  · exact .refl s

theorem nothingReceived_withdraw {s t : State} (args : List Byte) (ht : exec (.withdraw args) s = .next t) :
    NothingReceived s t := by
  obtain rfl := next_inj ht
  refine nothingReceived_takeRequest _ _ _ ?_
  unfold withdrawRule
  split
  case h_1 | h_2 => exact .of_same rfl rfl
  case h_4 | h_5 => exact nothingReceived_withdrawNow s
  all_goals exact .refl s

/-- R127, R174: the head record leaves. -/
theorem nothingReceived_popRxCommit {s t : State} (ht : exec .popRxCommit s = .next t) : NothingReceived s t := by
  obtain rfl := next_inj ht
  (repeat' split)
  · exact .refl s
  · exact ⟨rfl, by simp, .refl _, fun _ _ => rfl⟩
  · exact .of_same rfl rfl

/-- Of the commands of the host port that reach neither the line nor the sync state, the commit of POP_RX alone writes
RXE. -/
theorem nothingReceived_portOnly {i : Instr} {s t : State} (hi : portOnly i = true) (ht : exec i s = .next t) :
    NothingReceived s t := by
  cases i with
  | popRxCommit => exact nothingReceived_popRxCommit ht
  | transactionBegin _ | badRequest _ _ | popDoneCommit =>
    obtain rfl := next_inj ht
    (repeat' split) <;> exact .of_same (by simp) (by simp)
  | status _ | readFaults _ | clearFaults _ | readEvents _ | applyPattern _ | softReset _ | readConfig _ =>
    obtain rfl := next_inj ht
    exact nothingReceived_takeRequest _ _ _ (.of_same rfl rfl)
  | popRx _ | popDone _ | releaseAll _ =>
    obtain rfl := next_inj ht
    apply nothingReceived_takeRequest
    split <;> exact .of_same rfl rfl
  | push _ | claim _ | claimAt _ | release _ | readTable _ | ackEvents _ | setEnables _ | stagePattern _ =>
    obtain rfl := next_inj ht
    apply nothingReceived_takeRequest
    dsimp only [pushRule, claimRule, claimAtRule, releaseRule, readTableRule, ackEventsRule, setEnablesRule,
      stagePatternRule]
    (repeat' split) <;> exact .of_same rfl rfl
  | _ => cases hi

end Sys2Proof.Machine

namespace Sys2Proof.Machine

/-! ## Data frames (R121 to R128) -/

theorem mem_giveAck {a : Addr} {q : Byte} {l : List (Addr × Byte)} {p : Addr × Byte} (h : p ∈ giveAck a q l) :
    p = (a, q) ∨ (p ∈ l ∧ p.1 ≠ a) := by
  unfold giveAck at h
  split at h
  · obtain ⟨x, hx, rfl⟩ := List.mem_map.mp h
    split
    · exact .inl rfl
    · exact .inr ⟨hx, ‹_›⟩
  · rename_i hany
    rcases List.mem_append.mp h with hp | hp
    · exact .inr ⟨hp, fun hpa => hany (any_source.mpr ⟨p, hp, hpa⟩)⟩
    · exact .inl (List.mem_singleton.mp hp)

/-- R128: an ack joins a list that has none for its source. -/
theorem onePerSource_append {a : Addr} {l : List (Addr × Byte)} (q : Byte) (h : l.Pairwise fun p r => p.1 ≠ r.1)
    (ha : ∀ p ∈ l, p.1 ≠ a) : (l ++ [(a, q)]).Pairwise fun p r => p.1 ≠ r.1 := by
  refine List.pairwise_append.mpr ⟨h, List.pairwise_singleton _ _, fun p hp r hr => ?_⟩
  rw [List.mem_singleton.mp hr]
  exact ha p hp

theorem giveAck_onePerSource {l : List (Addr × Byte)} (a : Addr) (q : Byte)
    (h : l.Pairwise fun p r => p.1 ≠ r.1) : (giveAck a q l).Pairwise fun p r => p.1 ≠ r.1 := by
  have hsource : ∀ p : Addr × Byte, (if p.1 = a then (a, q) else p).1 = p.1 := by
    intro p
    split
    · exact Eq.symm ‹_›
    · rfl
  by_cases hany : ∃ p ∈ l, p.1 = a
  · have hgiven : giveAck a q l = l.map fun p => if p.1 = a then (a, q) else p := if_pos (any_source.mpr hany)
    rw [hgiven, List.pairwise_map]
    exact h.imp fun hpr => by rwa [hsource, hsource]
  · have hnew : ∀ p ∈ l, p.1 ≠ a := fun p hp hpa => hany ⟨p, hp, hpa⟩
    rw [giveAck_new q hnew]
    exact onePerSource_append q h hnew

/-- R125: a duplicate's ack carries the sequence on record for its source. -/
theorem ReceiveSound.duplicate {own a : Addr} {q : Byte} {x : Rxe} (h : ReceiveSound own x) (ha : a ≠ own)
    (hq : x.lastAcc[a] = some q) : ReceiveSound own { x with acks := giveDuplicateAck a q x.acks } := by
  rw [giveDuplicateAck_eq]
  split
  · exact h
  · rename_i hnew
    have hmem : ∀ {p}, p ∈ x.acks ++ [(a, q)] → p ∈ x.acks ∨ p = (a, q) := fun hp => by simpa using hp
    refine ⟨h.atMost32, onePerSource_append q h.onePerSource fun p hp hpa => hnew ⟨p, hp, hpa⟩, fun p hp => ?_,
      fun p hp => ?_⟩ <;> rcases hmem hp with hp | rfl
    · exact h.notOwn p hp
    · exact ha
    · exact h.asAccepted p hp
    · exact hq

/-- R126: a record joins a queue that has room. -/
theorem ReceiveSound.enqueued {own : Addr} {x : Rxe} (h : ReceiveSound own x) (hroom : x.queue.length < 32)
    (r : RxRecord) : ReceiveSound own { x with queue := x.queue ++ [r] } :=
  ⟨by simpa using hroom, h.onePerSource, h.notOwn, h.asAccepted⟩

/-- R123, R128: an accepted sequence goes on record, and its ack with it. -/
theorem ReceiveSound.accepted {own a : Addr} {x : Rxe} (h : ReceiveSound own x) (ha : a ≠ own) (q : Byte) :
    ReceiveSound own { x with lastAcc := x.lastAcc.set a (some q), acks := giveAck a q x.acks } where
  atMost32 := h.atMost32
  onePerSource := giveAck_onePerSource a q h.onePerSource
  notOwn p hp := by
    rcases mem_giveAck hp with rfl | ⟨hp, -⟩
    · exact ha
    · exact h.notOwn p hp
  asAccepted p hp := by
    rcases mem_giveAck hp with rfl | ⟨hp, hpa⟩
    · simp
    · have hne : a.val ≠ p.1.val := fun he => hpa (Fin.ext he.symm)
      simpa [Vector.getElem_set, hne] using h.asAccepted p hp

theorem receptionSound_recordFault {s : State} (h : ReceptionSound s) (k : FaultKind) (ctx : FaultCtx) :
    ReceptionSound (recordFault k ctx s) := h.kept (nothingReceived_recordFault k ctx s)

theorem receptionSound_receiveUnicast {s : State} (h : ReceptionSound s) {r : RxRecord} (hr : r.source ≠ s.own)
    (ctx : FaultCtx) : ReceptionSound (receiveUnicast r ctx s) := by
  by_cases hdup : s.rxe.lastAcc[r.source] = some r.seq
  · rw [receiveUnicast_duplicate r ctx hdup]
    exact ReceiveSound.duplicate h hr hdup
  by_cases hroom : s.rxe.queue.length < 32
  · have haccepted : ReceptionSound (acceptUnicast r s) := (ReceiveSound.enqueued h hroom r).accepted hr r.seq
    rw [receiveUnicast_accepted r ctx hdup hroom]
    split
    · exact receptionSound_recordFault haccepted _ _
    · exact haccepted
  · rw [receiveUnicast_full r ctx hdup (Nat.not_lt.mp hroom)]
    exact receptionSound_recordFault h _ _

theorem receptionSound_receiveBroadcast {s : State} (h : ReceptionSound s) (r : RxRecord) (ctx : FaultCtx) :
    ReceptionSound (receiveBroadcast r ctx s) := by
  by_cases hroom : s.rxe.queue.length < 32
  · rw [receiveBroadcast_accepted ctx hroom, enqueueRx_eq]
    exact ReceiveSound.enqueued h hroom r
  · rw [receiveBroadcast_full ctx (Nat.not_lt.mp hroom)]
    exact receptionSound_recordFault h _ _

/-- R120: a frame that names the own address as its source is never received. -/
theorem receptionSound_checkDataFrame {s : State} (h : ReceptionSound s) (k : Phase) (f : DataFrame) :
    ReceptionSound (checkDataFrame k f s) := by
  unfold checkDataFrame
  dsimp only
  (repeat' split)
  · exact h
  · exact receptionSound_recordFault h _ _
  · exact receptionSound_receiveBroadcast h _ _
  · rename_i hforeign _
    exact receptionSound_receiveUnicast h (fun ha => hforeign (.inr ha)) _
  · exact receptionSound_recordFault h _ _

theorem receptionSound_actOnPhase {s : State} (h : ReceptionSound s) (k : Phase) (f : Option DataFrame) :
    ReceptionSound (actOnPhase k f s) := by
  unfold actOnPhase
  (repeat' split)
  · exact receptionSound_recordFault h _ _
  · exact receptionSound_checkDataFrame h k _
  · exact h

theorem receptionSound_takeDataBytes {s : State} (h : ReceptionSound s) (k : Phase) (g : Bool) (b : List Byte) :
    ReceptionSound (takeDataBytes k g b s) := by
  unfold takeDataBytes
  (repeat' split)
  · exact receptionSound_recordFault h _ _
  · exact h.kept (.of_same (by simp) (by simp))
  · exact h
  · exact receptionSound_actOnPhase (s := phaseHad k s) h k _
  · exact h

/-- Every command keeps the receive side sound. -/
theorem exec_receptionSound (i : Instr) (s t : State) (hst : StartSound s) (h : ReceptionSound s)
    (ht : exec i s = .next t) : ReceptionSound t := by
  have hrx : ∀ b, NothingReceived s (s.withLif { s.lif with rx := b }) := fun _ => .of_same rfl rfl
  cases i with
  | powerOnReset | pinReset => obtain rfl := next_inj ht; exact receptionSound_resetTo _ _ _ s
  | start p n => exact receptionSound_start hst h p n ht
  | readAttemptEnd r => exact receptionSound_readAttemptEnd hst h r ht
  | sclHoldTimeout n =>
    obtain rfl := next_inj ht
    split
    · rename_i hs
      exact hst.receptionSound (by simp [hs]) (nothingAdded_attemptFailed _ (onBus _ s))
    · exact h
  | retryWaitExpiry n =>
    obtain rfl := next_inj ht
    split
    · rename_i hs
      exact hst.receptionSound (by simp [hs]) (nothingAdded_beginAttempt n s)
    · exact h
  | transactionEnd n =>
    obtain rfl := next_inj ht
    (repeat' split)
    · exact h
    · exact receptionSound_resetTo _ _ _ s
    · exact receptionSound_recordFault (s := portIdle s) h _ _
    · exact h
  | join args => exact h.kept (nothingReceived_join args ht)
  | withdraw args => exact h.kept (nothingReceived_withdraw args ht)
  | markerReceived b o p g =>
    obtain rfl := next_inj ht
    exact h.kept (hear_leads (.refl s) (fun _ => hrx _) (fun _ => nothingReceived_takeMarkerBytes o g _ s)
      (fun _ => (hrx none).trans (nothingReceived_takeMarkerBytes o g _ _)))
  | rollWordReceived k b p g =>
    obtain rfl := next_inj ht
    exact h.kept (hear_leads (.refl s) (fun _ => hrx _) (fun _ => nothingReceived_takeRollBytes k g _ s)
      (fun _ => (hrx none).trans (nothingReceived_takeRollBytes k g _ _)))
  | dataFrameReceived k b p g =>
    obtain rfl := next_inj ht
    exact hear_leads h (fun _ => h.kept (hrx _)) (receptionSound_takeDataBytes h k g)
      (receptionSound_takeDataBytes (h.kept (hrx none)) k g)
  | dataPhaseDamaged k g =>
    obtain rfl := next_inj ht
    dsimp only
    (repeat' split)
    · exact receptionSound_recordFault h _ _
    · exact h
    · exact receptionSound_actOnPhase (s := phaseHad k (endReception s)) h k none
    · exact h
  | ownRollReadBack r => exact h.kept (nothingReceived_ownRollReadBack r ht)
  | ownMarkerReadBack _ | ownDataReadBack _ =>
    obtain rfl := next_inj ht
    split
    · dsimp only
      (repeat' split) <;> exact h.kept (.of_same (by simp) (by simp))
    · exact h
  | dataPhase k =>
    obtain rfl := next_inj ht
    split
    · exact h.kept (.of_same (by simp) (by simp))
    · exact h
  | markerSlotEnd _ | rollSlotDamaged _ _ | cycleStart =>
    obtain rfl := next_inj ht
    dsimp only
    (repeat' split) <;> exact h.kept (.of_same (by simp) (by simp))
  | ownRollSlot => exact h.kept (nothingReceived_ownRollSlot ht)
  | leaveSlotEnd =>
    obtain rfl := next_inj ht
    split
    · exact h.kept (nothingReceived_withdrawNow s)
    · exact h
  | rollCallClose =>
    obtain rfl := next_inj ht
    split
    · exact h.kept (nothingReceived_close s)
    · exact h
  | listenTimerExpiry => exact h.kept (nothingReceived_listenTimerExpiry ht)
  | takeoverTimerExpiry => exact h.kept (nothingReceived_takeoverTimerExpiry ht)
  | lineFaultTimerExpiry g => exact h.kept (nothingReceived_lineFaultTimerExpiry g ht)
  | _ => exact h.kept (nothingReceived_portOnly rfl ht)

/-- Settles O52: a command receives nothing, or a frame within the bounds of queue and ack list, or it is one of START,
which finds RXE at its reset values. -/
theorem theReceiveSideStaysSound : Obligations.TheReceiveSideStaysSound := by
  intro s t hst h
  exact step_leads (P := fun s => StartSound s ∧ ReceptionSound s) (fun _ hs => hs.2) (fun _ _ hs => hs)
    (fun _ _ hs => hs) (fun i s t hs => exec_receptionSound i s t hs.1 hs.2) s t ⟨hst, h⟩

end Sys2Proof.Machine

namespace Sys2Proof.Machine

/-! ## POP_RX and POP_DONE (R127, R144, R174) -/

/-- R172: a POP_RX that passes the checks is answered by the head record, or EMPTY. -/
theorem popRx_answered {s : State} (hr : s.hp.tx = .request) (hs : s.sync.state ≠ .start) :
    exec (.popRx []) s = .next (match s.rxe.queue with
      | [] => replied 0x03#8 [] .empty [] s
      | r :: _ => replied 0x03#8 [] .ok (rxData r) s) := by
  refine congrArg _ ((takeRequest_by_rule 0x03#8 [] _ s hr (.inl hs)).trans ?_)
  cases s.rxe.queue <;> rfl

/-- R172: a POP_DONE that passes the checks is answered by the head completion record, or EMPTY. -/
theorem popDone_answered {s : State} (hr : s.hp.tx = .request) (hs : s.sync.state ≠ .start) :
    exec (.popDone []) s = .next (match s.dlt.done with
      | [] => replied 0x04#8 [] .empty [] s
      | d :: _ => replied 0x04#8 [] .ok (doneData d) s) := by
  refine congrArg _ ((takeRequest_by_rule 0x04#8 [] _ s hr (.inl hs)).trans ?_)
  cases s.dlt.done <;> rfl

theorem replyOf_eq_some {code : Byte} {h : Hp} {v : Reply} (htx : h.tx = .reply) (hc : h.request.head? = some code)
    (hv : h.reply = some v) : replyOf code h = some v :=
  (if_pos ⟨htx, hc⟩).trans hv

theorem replyOf_eq_none {code : Byte} {h : Hp} (hn : h.tx ≠ .reply ∨ h.request.head? ≠ some code ∨ h.reply = none) :
    replyOf code h = none := by
  unfold replyOf
  split
  · tauto
  · rfl

/-- R174: the commit of POP_RX by the reply that it ends. -/
theorem popRxCommit_ends {s : State} {v : Reply} (hv : replyOf 0x03#8 s.hp = some v) :
    exec .popRxCommit s = .next (replyDone v
      (if v.status = .ok then s.withRxe { s.rxe with queue := s.rxe.queue.drop 1 } else s)) := by
  simp only [exec, execPopRxCommit, hv, ← List.drop_one]
  split <;> rfl

/-- R174: the commit of POP_DONE by the reply that it ends. -/
theorem popDoneCommit_ends {s : State} {v : Reply} (hv : replyOf 0x04#8 s.hp = some v) :
    exec .popDoneCommit s = .next (replyDone v (if v.status = .ok then freeHead s else s)) := by
  simp only [exec, execPopDoneCommit, hv]
  split <;> rfl

theorem commit_without_reply (s : State) :
    (replyOf 0x03#8 s.hp = none → exec .popRxCommit s = .next s) ∧
      (replyOf 0x04#8 s.hp = none → exec .popDoneCommit s = .next s) := by
  constructor <;> intro h <;> simp [exec, execPopRxCommit, execPopDoneCommit, h]

/-- R100, R174: the head buffer becomes FREE. -/
theorem freeHead_eq (s : State) :
    (s.dlt.done = [] → freeHead s = s) ∧
      ∀ r rest, s.dlt.done = r :: rest → freeHead s =
        { s with dlt := { s.dlt with done := rest }, txe := { s.txe with free := s.txe.free + 1 } } := by
  constructor
  · intro h
    simp [freeHead, h]
  · intro r rest h
    simp [freeHead, h, State.withDlt, State.withTxe]

/-- Settles O14: each pop by the head of its list, each commit by the reply that it ends. -/
theorem popsAnswerThenCommit : Obligations.PopsAnswerThenCommit := by
  refine ⟨⟨fun s hr hs hq => ?_, fun r rest s hr hs hq => ?_, fun v s htx hc hv => ?_, fun s hn => ?_⟩,
    fun s hr hs hq => ?_, fun r rest s hr hs hq => ?_, fun v r rest s htx hc hv hq => ?_, fun v s htx hc hv hq => ?_,
    fun s hn => ?_⟩
  · rw [popRx_answered hr hs, hq]
  · rw [popRx_answered hr hs, hq]
    rfl
  · rw [popRxCommit_ends (replyOf_eq_some htx hc hv)]
    split <;> rfl
  · exact (commit_without_reply s).1 (replyOf_eq_none hn)
  · rw [popDone_answered hr hs, hq]
  · rw [popDone_answered hr hs, hq]
    rfl
  · rw [popDoneCommit_ends (replyOf_eq_some htx hc hv), (freeHead_eq s).2 r rest hq]
    split <;> rfl
  · rw [popDoneCommit_ends (replyOf_eq_some htx hc hv), (freeHead_eq s).1 hq, ite_self]
    rfl
  · exact (commit_without_reply s).2 (replyOf_eq_none hn)

end Sys2Proof.Machine

namespace Sys2Proof.Machine

/-! ## The aging of one entry (R133 to R135, R140) -/

/-- R133, R134: an entry that is not given up, behind an aging in which `n` is the next due-order. -/
def agedEntry (c : Configuration) (n : Byte) (e : RetryEntry) : RetryEntry :=
  if fallsDue c e then { e with age := e.age + 1, due := some n }
  else if e.due = none then { e with age := e.age + 1 }
  else e

/-- R134: the due-order that is next behind the aging of an entry. -/
def nextDueOrder (c : Configuration) (n : Byte) (e : RetryEntry) : Byte := if fallsDue c e then n + 1#8 else n

/-- R135, R140: the completion of an entry that is given up. -/
def unconfirmedDone (cycle : Option Half) (e : RetryEntry) : DoneRec :=
  { frame := e.frame, status := .unconfirmed, cycle := cycle }

/-- R135, R150: the context of the DELIVERY_FAILED that an entry's giving up records at station `a`. -/
def failureCtx (a : Addr) (e : RetryEntry) : FaultCtx :=
  .frame (finByte a) e.frame.dest.byte e.frame.cls.byte (e.frame.seq.getD 0#8)

@[simp] theorem agedEntry_frame (c : Configuration) (n : Byte) (e : RetryEntry) :
    (agedEntry c n e).frame = e.frame := by
  unfold agedEntry
  (repeat' split) <;> rfl

theorem not_fallsDue_of_givenUp {c : Configuration} {e : RetryEntry} (h : givenUp c e = true) :
    fallsDue c e = false := by
  simp only [givenUp, fallsDue, decide_eq_true_eq, decide_eq_false_iff_not] at h ⊢
  rintro ⟨hopen, -, -, hleft⟩
  rcases h with hclosed | ⟨-, -, hnone⟩
  · simp [hopen] at hclosed
  · omega

/-- R133 to R135, R140: an aged entry is given up, or joins those kept behind its aging. -/
theorem ageEntry_eq (s : State) (e : RetryEntry) : ageEntry s e =
    if givenUp s.cfg.config e then giveUp e.frame s
    else s.withDlt { s.dlt with
      retry := s.dlt.retry ++ [agedEntry s.cfg.config s.dlt.dueCounter e]
      dueCounter := nextDueOrder s.cfg.config s.dlt.dueCounter e } := by
  unfold ageEntry
  cases hclosed : e.closed with
  | true => simp [givenUp, hclosed]
  | false =>
    cases hdue : e.due with
    | some d => simp [givenUp, agedEntry, nextDueOrder, fallsDue, keepEntry, hclosed, hdue]
    | none =>
      by_cases hage : e.age + 1 = s.cfg.config.retryTimeout
      · by_cases hleft : e.frame.attempts < 1 + s.cfg.config.retryLimit
        · simp [givenUp, agedEntry, nextDueOrder, fallsDue, keepEntry, hclosed, hdue, hage, hleft, State.withDlt]
        · simp [givenUp, hclosed, hdue, hage, hleft, Nat.le_of_not_lt hleft]
      · simp [givenUp, agedEntry, nextDueOrder, fallsDue, keepEntry, hclosed, hdue, hage]

theorem giveUp_dlt (e : RetryEntry) (s : State) : (giveUp e.frame s).dlt =
    { s.dlt with done := s.dlt.done ++ [unconfirmedDone s.sync.cycleNumber e] } := by
  simp [giveUp, unconfirmedDone]

theorem giveUp_fru (e : RetryEntry) (s : State) : (giveUp e.frame s).fru =
    s.fru.record .deliveryFailed s.sync.cycleNumber s.sync.state (failureCtx s.own e) := by
  simp [giveUp, failureCtx]

theorem doneReadyBy_ageEntry (s : State) (e : RetryEntry) : DoneReadyBy s (ageEntry s e) := by
  rw [ageEntry_eq]
  split
  · refine (doneReadyBy_complete .unconfirmed e.frame s).trans (.of_same (by simp [giveUp]) ?_)
    rw [giveUp, recordFault_isPending]
    simp
  · exact .of_same rfl rfl

/-! ## The list that an aging leaves (R133, R134) -/

/-- R134: due-orders go up by 1 in list order, modulo 256. -/
theorem countP_fallsDue_cons (c : Configuration) (n : Byte) (e : RetryEntry) (l : List RetryEntry) :
    n + byteOf ((e :: l).countP (fallsDue c)) = nextDueOrder c n e + byteOf (l.countP (fallsDue c)) := by
  unfold nextDueOrder byteOf
  by_cases hdue : fallsDue c e = true
  · simp [hdue, BitVec.ofNat_add, BitVec.add_assoc, BitVec.add_comm]
  · simp [hdue]

/-- The aged list entry by entry: a due-order given out at the head is passed on to the rest. -/
theorem agedList_cons (c : Configuration) (n : Byte) (e : RetryEntry) (l : List RetryEntry) :
    agedList c n (e :: l) =
      (if givenUp c e then [] else [agedEntry c n e]) ++ agedList c (nextDueOrder c n e) l := by
  have hrest : agedList c (nextDueOrder c n e) l = ((l.zipIdx.filter fun p => !givenUp c p.1).map fun p =>
      agedEntry c (n + byteOf (((e :: l).take (p.2 + 1)).countP (fallsDue c))) p.1) := by
    refine List.map_congr_left fun p _ => ?_
    rw [List.take_succ_cons, countP_fallsDue_cons]
    rfl
  have hshift : l.zipIdx 1 = l.zipIdx.map fun p => (p.1, p.2 + 1) := List.zipIdx_succ ..
  rw [hrest]
  unfold agedList
  rw [List.zipIdx_cons, Nat.zero_add, hshift, List.filter_cons, List.filter_map]
  by_cases hgive : givenUp c e = true
  · rw [if_pos hgive, if_neg (by simp [hgive])]
    exact List.map_map
  · rw [if_neg hgive, if_pos (by simp [hgive])]
    exact congrArg₂ List.cons (by simp [agedEntry, byteOf]) List.map_map

/-- R133 to R135: DLT behind the aging of the entries of `l`, one after the other. -/
theorem foldl_ageEntry_dlt (l : List RetryEntry) (s : State) : (l.foldl ageEntry s).dlt = {
    retry := s.dlt.retry ++ agedList s.cfg.config s.dlt.dueCounter l
    dueCounter := s.dlt.dueCounter + byteOf (l.countP (fallsDue s.cfg.config))
    done := s.dlt.done ++ (l.filter (givenUp s.cfg.config)).map (unconfirmedDone s.sync.cycleNumber) } := by
  induction l generalizing s with
  | nil => simp [agedList, byteOf]
  | cons e l ih =>
    have hframe := ageEntry_frame s e
    rw [List.foldl_cons, ih, agedList_cons, countP_fallsDue_cons]
    simp only [hframe]
    rw [ageEntry_eq]
    by_cases hgive : givenUp s.cfg.config e = true
    · have horder : nextDueOrder s.cfg.config s.dlt.dueCounter e = s.dlt.dueCounter := by
        simp [nextDueOrder, not_fallsDue_of_givenUp hgive]
      simp [hgive, giveUp_dlt, horder]
    · simp [hgive]

/-- R133 to R135, R140: DLT behind an aging. -/
theorem ageRetryList_dlt (s : State) : (ageRetryList s).dlt = {
    retry := agedList s.cfg.config s.dlt.dueCounter s.dlt.retry
    dueCounter := s.dlt.dueCounter + byteOf (s.dlt.retry.countP (fallsDue s.cfg.config))
    done := s.dlt.done ++ (s.dlt.retry.filter (givenUp s.cfg.config)).map (unconfirmedDone s.sync.cycleNumber) } :=
  foldl_ageEntry_dlt ..

theorem doneReadyBy_ageRetryList (s : State) : DoneReadyBy s (ageRetryList s) :=
  foldl_holds (P := DoneReadyBy s) (fun u e hu => hu.trans (doneReadyBy_ageEntry u e)) _ _ (.of_same rfl rfl)

/-! ## The faults of an aging (R135, R150, R151) -/

/-- R150: the fault record behind one DELIVERY_FAILED for each entry of `l`, at station `a`. -/
def failuresRecorded (a : Addr) (cycle : Option Half) (st : SyncState) (l : List RetryEntry) (f : Fru) : Fru :=
  l.foldl (fun g e => g.record .deliveryFailed cycle st (failureCtx a e)) f

theorem foldl_ageEntry_fru (l : List RetryEntry) (s : State) : (l.foldl ageEntry s).fru =
    failuresRecorded s.own s.sync.cycleNumber s.sync.state (l.filter (givenUp s.cfg.config)) s.fru := by
  induction l generalizing s with
  | nil => rfl
  | cons e l ih =>
    have hframe := ageEntry_frame s e
    rw [List.foldl_cons, ih, State.own, State.own]
    simp only [hframe]
    rw [ageEntry_eq]
    by_cases hgive : givenUp s.cfg.config e = true
    · rw [if_pos hgive, giveUp_fru, List.filter_cons_of_pos hgive]
      rfl
    · rw [if_neg hgive, List.filter_cons_of_neg hgive]
      rfl

theorem ageRetryList_fru (s : State) : (ageRetryList s).fru =
    failuresRecorded s.own s.sync.cycleNumber s.sync.state (s.dlt.retry.filter (givenUp s.cfg.config)) s.fru :=
  foldl_ageEntry_fru ..

theorem record_counts_self (f : Fru) (k : FaultKind) (n : Option Half) (st : SyncState) (ctx : FaultCtx) :
    (f.record k n st ctx).counts[k.code] = countUp f.counts[k.code] := by
  unfold Fru.record
  dsimp only
  split <;> simp

theorem countUp_eq {n : Nat} (h : n ≤ 255) : countUp n = min 255 (n + 1) := by
  unfold countUp
  split <;> omega

/-- R150: each failure counts one, up to 255. -/
theorem failuresRecorded_counts (a : Addr) (cycle : Option Half) (st : SyncState) (l : List RetryEntry) {f : Fru}
    (h : f.counts[FaultKind.deliveryFailed.code] ≤ 255) :
    (failuresRecorded a cycle st l f).counts[FaultKind.deliveryFailed.code] =
      min 255 (f.counts[FaultKind.deliveryFailed.code] + l.length) := by
  induction l generalizing f with
  | nil => exact (Nat.min_eq_right h).symm
  | cons e l ih =>
    have hcount := record_counts_self f .deliveryFailed cycle st (failureCtx a e)
    rw [countUp_eq h] at hcount
    refine (ih (hcount ▸ Nat.min_le_left ..)).trans ?_
    rw [hcount, List.length_cons]
    omega

theorem failuresRecorded_first_kept {f : Fru} {r : FirstFault} (h : f.first = some r) (a : Addr) (cycle : Option Half)
    (st : SyncState) (l : List RetryEntry) : (failuresRecorded a cycle st l f).first = some r := by
  induction l generalizing f with
  | nil => exact h
  | cons e l ih => exact ih (record_first_kept h ..)

/-- R151: of the failures recorded where no first fault stands, the first becomes it. -/
theorem failuresRecorded_first {f : Fru} {l : List RetryEntry} {e : RetryEntry} (hl : l.head? = some e)
    (h : f.first = none) (hm : masked f.mask .deliveryFailed = false) (a : Addr) (cycle : Option Half)
    (st : SyncState) : (failuresRecorded a cycle st l f).first =
      some { kind := .deliveryFailed, cycle := cycle, state := st, ctx := failureCtx a e } := by
  obtain ⟨rest, rfl⟩ := List.head?_eq_some_iff.mp hl
  exact failuresRecorded_first_kept (record_first_empty h hm ..) ..

/-! ## The aging at a cycle start (R14, R133) -/

/-- R14, R44, R45: the station in its new cycle, before any aging. -/
def cycleBegun (s : State) : State :=
  (emptyRecord (freshSlots s)).withSync { s.sync with markerDone := false, leaveSent := false, cycleShift := 0 }

theorem produceCycleStart_active {s : State} (h : s.sync.state = .active) :
    produceCycleStart s = applyStaged (ageRetryList (cycleBegun s)) := by
  have hbegun : (cycleBegun s).sync.state = .active := h
  exact congrArg applyStaged (if_pos hbegun)

/-- R133: the cycle start of an ACTIVE station ages its retry list. -/
theorem produceCycleStart_active_dlt {s : State} (h : s.sync.state = .active) : (produceCycleStart s).dlt = {
    retry := agedList s.cfg.config s.dlt.dueCounter s.dlt.retry
    dueCounter := s.dlt.dueCounter + byteOf (s.dlt.retry.countP (fallsDue s.cfg.config))
    done := s.dlt.done ++ (s.dlt.retry.filter (givenUp s.cfg.config)).map (unconfirmedDone s.sync.cycleNumber) } := by
  rw [produceCycleStart_active h, (applyStaged_frame _).2.2.2.2.2.1, ageRetryList_dlt]
  rfl

theorem produceCycleStart_active_fru {s : State} (h : s.sync.state = .active) : (produceCycleStart s).fru =
    failuresRecorded s.own s.sync.cycleNumber .active (s.dlt.retry.filter (givenUp s.cfg.config)) s.fru := by
  have hbegun : (cycleBegun s).sync.state = .active := h
  have hstaged := applyStaged_frame (ageRetryList (cycleBegun s))
  rw [produceCycleStart_active h]
  simp only [hstaged, ageRetryList_fru, hbegun]
  rfl

theorem doneReadyBy_applyStaged (s : State) : DoneReadyBy s (applyStaged s) := by
  refine .of_same (by simp) ?_
  unfold applyStaged
  split
  · exact post_isPending .patternApplied .doneReady _
  · rfl

theorem doneReadyBy_produceCycleStart {s : State} (h : s.sync.state = .active) :
    DoneReadyBy s (produceCycleStart s) := by
  rw [produceCycleStart_active h]
  exact (DoneReadyBy.of_same (s := s) (t := cycleBegun s) rfl rfl).trans
    ((doneReadyBy_ageRetryList _).trans (doneReadyBy_applyStaged _))

/-- R14, R133: CYCLE_START at an ACTIVE station, as far as its aging goes. -/
theorem cycleStart_aged {s : State} (ht : s.slotTiming = true) (ha : s.sync.state = .active)
    (hv : s.sync.holderVacant = false) : ∃ t, exec .cycleStart s = .next t ∧
      t.sync.cycleNumber = nextNumber s.sync.cycleNumber ∧
      t.dlt = {
        retry := agedList s.cfg.config s.dlt.dueCounter s.dlt.retry
        dueCounter := s.dlt.dueCounter + byteOf (s.dlt.retry.countP (fallsDue s.cfg.config))
        done := s.dlt.done ++ (s.dlt.retry.filter (givenUp s.cfg.config)).map (unconfirmedDone t.sync.cycleNumber) } ∧
      t.fru = failuresRecorded s.own t.sync.cycleNumber .active (s.dlt.retry.filter (givenUp s.cfg.config)) s.fru ∧
      DoneReadyBy s t := by
  have hbegun : ((foldMark s).withSync { s.sync with cycleNumber := nextNumber s.sync.cycleNumber }).sync.state =
      .active := ha
  have hnumber : (nextCycle s).sync.cycleNumber = nextNumber s.sync.cycleNumber := by rw [nextCycle_sync]
  have hdlt := produceCycleStart_active_dlt hbegun
  have hfru := produceCycleStart_active_fru hbegun
  have hready : DoneReadyBy s (nextCycle s) :=
    have h := doneReadyBy_produceCycleStart hbegun
    ⟨h.posted, h.grows⟩
  refine ⟨_, cycleStart_next ht hv, ?_⟩
  split
  · rw [show (sendMarker (nextCycle s)).sync = (nextCycle s).sync from rfl, hnumber]
    exact ⟨rfl, hdlt, hfru, hready.trans (.of_same rfl rfl)⟩
  · rw [hnumber]
    exact ⟨rfl, hdlt, hfru, hready⟩

/-- Settles O37: by the aging entry by entry, in DLT, in the fault record and in DONE_READY. -/
theorem agingOfTheRetryList : Obligations.AgingOfTheRetryList := by
  intro s ht ha hv
  obtain ⟨t, hstep, hnumber, hdlt, hfru, hready⟩ := cycleStart_aged ht ha hv
  refine ⟨t, hstep, by rw [hdlt], by rw [hdlt], by rw [hdlt]; rfl, hnumber, fun hnone => ?_, fun hf => ?_,
    fun e he hfirst hm => ?_, ?_⟩
  · rw [hfru, List.filter_eq_nil_iff.mpr fun e he => by simp [hnone e he]]
    rfl
  · rw [hfru, failuresRecorded_counts _ _ _ _ (hf.counts _), List.countP_eq_length_filter]
  · rw [hfru, failuresRecorded_first he hfirst hm]
    rfl
  · rw [hready.posted, hdlt]
    refine or_congr_right (and_congr_right fun hdone => ?_)
    rw [hdone, List.nil_append, ne_eq, List.map_eq_nil_iff, List.filter_eq_nil_iff]
    simp

end Sys2Proof.Machine

namespace Sys2Proof.Machine

/-! ## The retry list as entries leave it, change on it and join it (R106, R131) -/

/-- The destinations of a retry list, in its order; they are all that `RetryListSound` speaks of. -/
def destinations (l : List RetryEntry) : List Dest := l.map fun e => e.frame.dest

theorem RetryListSound.lessened {l l' : List RetryEntry} (h : RetryListSound l)
    (hd : (destinations l').Sublist (destinations l)) : RetryListSound l' where
  atMost16 := by
    have hlength := hd.length_le
    rw [destinations, destinations, List.length_map, List.length_map] at hlength
    exact hlength.trans h.atMost16
  onePerDestination := List.pairwise_map.mp ((List.pairwise_map.mpr h.onePerDestination).sublist hd)
  noBroadcast e he := by
    obtain ⟨f, hf, hdest⟩ := List.mem_map.mp (hd.subset (List.mem_map_of_mem he))
    exact hdest ▸ h.noBroadcast f hf

theorem RetryListSound.sublist {l l' : List RetryEntry} (h : RetryListSound l) (hl : l'.Sublist l) :
    RetryListSound l' := h.lessened (hl.map _)

/-- What an entry's age, due-order, attempts and closing come to does not matter. -/
theorem RetryListSound.map {l : List RetryEntry} (h : RetryListSound l) {f : RetryEntry → RetryEntry}
    (hf : ∀ e, (f e).frame.dest = e.frame.dest) : RetryListSound (l.map f) := by
  have hsame : destinations (l.map f) = destinations l := List.map_map.trans (List.map_congr_left fun e _ => hf e)
  exact h.lessened (hsame ▸ .refl _)

/-- R106: an entry joins a list that has room and no entry for its destination. -/
theorem RetryListSound.joined {l : List RetryEntry} (h : RetryListSound l) {e : RetryEntry} {d : Addr}
    (he : e.frame.dest = .unicast d) (hroom : l.length < 16) (hnew : ∀ f ∈ l, f.frame.dest ≠ .unicast d) :
    RetryListSound (l ++ [e]) where
  atMost16 := by simpa using hroom
  onePerDestination := List.pairwise_append.mpr ⟨h.onePerDestination, List.pairwise_singleton _ _, fun f hf g hg => by
    rw [List.mem_singleton.mp hg, he]
    exact hnew f hf⟩
  noBroadcast f hf := by
    rcases List.mem_append.mp hf with hf | hf
    · exact h.noBroadcast f hf
    · simp [List.mem_singleton.mp hf, he]

/-- R133 to R135: of the entries, an aging keeps those that it does not give up, with their frames. -/
theorem destinations_agedList (c : Configuration) (n : Byte) (l : List RetryEntry) :
    (destinations (agedList c n l)).Sublist (destinations l) := by
  induction l generalizing n with
  | nil => exact .slnil
  | cons e l ih =>
    rw [agedList_cons]
    split
    · exact (ih _).cons _
    · rw [destinations, List.singleton_append, List.map_cons, agedEntry_frame]
      exact (ih _).cons_cons _

theorem stayingEntries_sublist (gone : Addr → Bool) (l : List RetryEntry) : (stayingEntries gone l).Sublist l :=
  List.filter_sublist

/-! ## The retry list behind the operations that write it -/

/-- R106, R131: the station's retry list is sound. -/
def RetrySound (s : State) : Prop := RetryListSound s.dlt.retry

theorem RetrySound.congr {s t : State} (h : RetrySound s) (hd : t.dlt.retry = s.dlt.retry) : RetrySound t := by
  unfold RetrySound
  rw [hd]
  exact h

theorem retrySound_of_nil {s : State} (h : s.dlt.retry = []) : RetrySound s := by
  unfold RetrySound
  rw [h]
  exact retryListSound_nil

/-- R145: nothing waits at a station that has withdrawn. -/
theorem retrySound_withdrawNow (s : State) : RetrySound (withdrawNow s) := retrySound_of_nil (by simp)

theorem retrySound_fatal {s : State} (h : RetrySound s) (k : FaultKind) (ctx : FaultCtx) :
    RetrySound (fatal k ctx s) := by
  unfold fatal
  dsimp only
  split
  · exact retrySound_withdrawNow _
  · exact h.congr (by simp)

/-- R132. -/
theorem retrySound_finishEntry {s : State} (h : RetrySound s) (a : Addr) (st : DoneStatus) :
    RetrySound (finishEntry a st s) := by
  unfold RetrySound
  rw [finishEntry_dlt]
  split
  · exact h
  · exact RetryListSound.sublist h List.eraseP_sublist

/-- R140. -/
theorem retrySound_closeEntries {s : State} (h : RetrySound s) : RetrySound (closeEntries s) :=
  RetryListSound.map h fun _ => rfl

/-- R133 to R135. -/
theorem retrySound_produceCycleStart {s : State} (h : RetrySound s) : RetrySound (produceCycleStart s) := by
  by_cases ha : s.sync.state = .active
  · unfold RetrySound
    rw [produceCycleStart_active_dlt ha]
    exact RetryListSound.lessened h (destinations_agedList _ _ _)
  · exact h.congr (by rw [(produceCycleStart_without_aging (.inl ha)).1])

/-! ## The retry list behind markers and roll words -/

theorem retrySound_markerTiming {s : State} (h : RetrySound s) (m : Marker) (o : Int) (restart : Bool) :
    RetrySound (markerTiming m o restart s) := by
  cases restart
  · exact h
  · refine (retrySound_produceCycleStart (s := cutTransmission ((foldMark s).withSync _)) ?_).congr rfl
    exact h

theorem retrySound_learningFailure {s : State} (h : RetrySound s) : RetrySound (learningFailure s) := by
  unfold learningFailure
  dsimp only
  split
  · exact h
  · exact retrySound_fatal (h.congr (by rfl)) _ _

theorem retrySound_markerCompare {s : State} (h : RetrySound s) (m : Marker) : RetrySound (markerCompare m s) := by
  unfold markerCompare
  (repeat' split)
  · exact h
  · exact h.congr (by simp)
  · exact h.congr (by simp)
  · exact retrySound_learningFailure h
  · exact h

/-- R47, R139. -/
theorem retrySound_adoptPresence {s : State} (h : RetrySound s) (m : Marker) : RetrySound (adoptPresence m s) := by
  rw [adoptPresence_eq]
  unfold RetrySound
  rw [State.withRcm_dlt, decided_dlt m h]
  exact RetryListSound.sublist h (stayingEntries_sublist _ _)

/-- R83, R140. -/
theorem retrySound_displacementTest {s : State} (h : RetrySound s) : RetrySound (displacementTest s) := by
  have hforget : ∀ u : State, u.dlt.retry = s.dlt.retry → RetrySound (forgetPeers u) := fun u hu =>
    retrySound_closeEntries (s := freshSources u) (h.congr hu)
  unfold displacementTest
  dsimp only
  (repeat' split)
  · exact retrySound_withdrawNow _
  · exact hforget _ (by simp)
  · exact hforget _ (by simp)
  · exact h

theorem retrySound_takeMarker {s : State} (h : RetrySound s) (m : Marker) (o : Int) (restart : Bool) :
    RetrySound (takeMarker m o restart s) := by
  have hlearn := (retrySound_markerTiming h m o restart).congr (t := markerLearn (markerTiming m o restart s)) (by simp)
  have hcompare := retrySound_markerCompare hlearn m
  unfold takeMarker
  dsimp only
  split
  · exact hcompare
  · exact (retrySound_displacementTest (retrySound_adoptPresence hcompare m)).congr (by simp)

theorem retrySound_handleMarker {s : State} (h : RetrySound s) (m : Marker) (o : Int) :
    RetrySound (handleMarker m o s) := by
  unfold handleMarker
  (repeat' split)
  · exact h
  · exact retrySound_fatal h _ _
  · exact retrySound_takeMarker h _ _ _
  · exact retrySound_takeMarker (h.congr (by simp)) _ _ _
  · exact h
  · exact retrySound_takeMarker h _ _ _
  · exact retrySound_takeMarker h _ _ _
  · exact h

theorem retrySound_takeMarkerBytes {s : State} (h : RetrySound s) (o : Int) (g : Bool) (b : List Byte) :
    RetrySound (takeMarkerBytes o g b s) := by
  unfold takeMarkerBytes
  (repeat' split)
  · exact h
  · exact h.congr (by simp)
  · exact h
  · exact retrySound_handleMarker h _ o

/-- R137. -/
theorem retrySound_takeAck (x : Addr) (s : State) (q : Byte) (h : RetrySound s) : RetrySound (takeAck x s q) := by
  unfold takeAck
  (repeat' split)
  · exact h.congr (by simp)
  · exact retrySound_finishEntry h x .delivered
  · exact h.congr (by simp)

theorem retrySound_acceptRollWord {s : State} (h : RetrySound s) (k : Addr) (w : RollWord) :
    RetrySound (acceptRollWord k w s) := by
  have hacked := foldl_holds (retrySound_takeAck k) (ownAcks w s)
    (s.withRcm { s.rcm with record := s.rcm.record.set k (some w) }) h
  unfold acceptRollWord
  dsimp only
  split <;> exact hacked

theorem retrySound_checkRollWord {s : State} (h : RetrySound s) (k : Addr) (w : RollWord) :
    RetrySound (checkRollWord k w s) := by
  unfold checkRollWord
  (repeat' split)
  · exact h.congr (by simp)
  · exact retrySound_fatal h _ _
  · exact h.congr (by simp)
  · exact h.congr (by simp)
  · exact retrySound_acceptRollWord h k w

theorem retrySound_takeRollBytes {s : State} (h : RetrySound s) (k : Addr) (g : Bool) (b : List Byte) :
    RetrySound (takeRollBytes k g b s) := by
  unfold takeRollBytes
  (repeat' split)
  · exact h.congr (by simp)
  · exact h.congr (by simp)
  · exact h
  · exact h.congr (by simp)
  · exact retrySound_checkRollWord (h.congr (by rfl)) k _
  · exact h

/-! ## The retry list behind read-backs -/

theorem retrySound_rollCollision {s : State} (h : RetrySound s) : RetrySound (rollCollision s) := by
  unfold rollCollision
  dsimp only
  split
  · exact h
  · exact retrySound_fatal (h.congr (by rfl)) _ _

/-- R39. -/
theorem retrySound_ownRollReadBack {s t : State} (h : RetrySound s) (r : Reception)
    (ht : exec (.ownRollReadBack r) s = .next t) : RetrySound t := by
  obtain rfl := next_inj ht
  split
  · dsimp only
    (repeat' split)
    · exact h
    · exact h
    · exact retrySound_fatal (h.congr (by rfl)) _ _
    · exact retrySound_rollCollision (h.congr (by rfl))
  · exact h

/-- R111: a broadcast is on no retry list. -/
theorem finishBroadcast_retry (c : Cls) (st : DoneStatus) (s : State) :
    (finishBroadcast c st s).dlt.retry = s.dlt.retry := by
  unfold finishBroadcast
  split <;> simp

/-- R11, R111, R112. -/
theorem ownDataReadBack_retry {s t : State} (r : Reception) (ht : exec (.ownDataReadBack r) s = .next t) :
    t.dlt.retry = s.dlt.retry := by
  obtain rfl := next_inj ht
  split
  · dsimp only
    (repeat' split) <;> simp [finishBroadcast_retry]
  · rfl

/-! ## The retry list behind selection (R105, R106, R110, R136) -/

/-- R105, R136: the entry whose frame is sent again keeps its place. -/
theorem retrySound_retransmit {s : State} (h : RetrySound s) (k : Phase) (e : RetryEntry) :
    RetrySound (retransmit k e s) :=
  RetryListSound.map h fun x => by split <;> rfl

/-- R106: an eligible unicast finds room and no entry for its destination. -/
theorem eligible_unicast {s : State} {f : TxFrame} {d : Addr} (hf : eligible s f = true) (hdest : f.dest = .unicast d) :
    s.dlt.retry.length < 16 ∧ ∀ e ∈ s.dlt.retry, e.frame.dest ≠ .unicast d := by
  rw [eligible_eq rfl rfl] at hf
  simp only [canSend, hdest, decide_eq_true_eq] at hf
  exact hf.2

/-- R108, R110: of the frames sent, a unicast joins the tail of the list. -/
theorem retrySound_sendHead {s : State} (h : RetrySound s) (k : Phase) (i : Fin 16) (c : Cls) {f : TxFrame}
    (rest : List TxFrame) (hf : eligible s f = true) : RetrySound (sendHead k i c f rest s) := by
  cases hdest : f.dest with
  | broadcast => exact h.congr (sendHead_broadcast k i c rest s hdest).retry
  | unicast d =>
    obtain ⟨hroom, hnew⟩ := eligible_unicast hf hdest
    unfold RetrySound
    rw [(sendHead_unicast k i c rest s hdest).retry]
    exact RetryListSound.joined h hdest hroom hnew

theorem retrySound_walk {s : State} (h : RetrySound s) (k : Phase) (n : Nat) (i : Fin 16) :
    RetrySound (walk k n i s) := by
  induction n generalizing i s with
  | zero => exact h
  | succ n ih =>
    have hdropped := h.congr (t := dropAbsent s.txe.pattern[i] (s.txe.queue s.txe.pattern[i]) s)
      (by rw [(headsDropped ..).dlt])
    unfold walk
    dsimp only
    (repeat' split)
    · exact ih hdropped _
    · exact retrySound_sendHead hdropped k i _ _ ‹_›
    · exact ih hdropped _

theorem retrySound_select {s : State} (h : RetrySound s) (k : Phase) : RetrySound (select k s) := by
  unfold select
  split
  · exact retrySound_retransmit h k _
  · exact retrySound_walk h k 16 _

/-! ## The retry list behind a close, a cycle start and the expiry of a timer -/

/-- R51, R139. -/
theorem retrySound_close {s : State} (h : RetrySound s) : RetrySound (close s) := by
  unfold RetrySound
  rw [(close_dlt h).1]
  exact RetryListSound.sublist h (stayingEntries_sublist _ _)

/-- R14, R85, R89. -/
theorem retrySound_cycleStart {s t : State} (h : RetrySound s) (ht : exec .cycleStart s = .next t) :
    RetrySound t := by
  obtain rfl := next_inj ht
  dsimp only
  (repeat' split)
  · exact h.congr (by simp)
  · exact retrySound_produceCycleStart (h.congr (by rfl))
  · exact retrySound_produceCycleStart (h.congr (by rfl))
  · exact h

/-- R90, R94. -/
theorem retrySound_listenTimerExpiry {s t : State} (h : RetrySound s) (ht : exec .listenTimerExpiry s = .next t) :
    RetrySound t := by
  obtain rfl := next_inj ht
  (repeat' split)
  · exact h
  · exact retrySound_withdrawNow s
  · exact (retrySound_closeEntries h).congr (by simp)
  · exact h
  · exact h

/-- R91, R92. -/
theorem retrySound_takeoverTimerExpiry {s t : State} (h : RetrySound s)
    (ht : exec .takeoverTimerExpiry s = .next t) : RetrySound t := by
  obtain rfl := next_inj ht
  (repeat' split)
  · exact retrySound_produceCycleStart (h.congr (by simp))
  · exact retrySound_withdrawNow s
  · exact retrySound_produceCycleStart (h.congr (by simp))
  · exact h
  · exact h

theorem retrySound_lineFaultTimerExpiry {s t : State} (h : RetrySound s) (g : Bool)
    (ht : exec (.lineFaultTimerExpiry g) s = .next t) : RetrySound t := by
  obtain rfl := next_inj ht
  (repeat' split)
  · exact h.congr (by simp)
  · exact h
  · exact retrySound_fatal (h.congr (by rfl)) _ _
  · exact h

/-! ## The retry list behind the host port -/

/-- R172: a request writes the retry list where its rule does. -/
theorem takeRequest_retry {s : State} (code : Byte) (ok : Bool) (args : List Byte) {rule : State → Result}
    (h : (rule s).state.dlt.retry = s.dlt.retry) : (takeRequest code ok args rule s).dlt.retry = s.dlt.retry :=
  takeRequest_keeps (fun u => u.dlt.retry) (fun _ _ => rfl) code ok args rule s h

/-- No command of the host port that reaches neither the line nor the sync state writes the retry list. -/
theorem portOnly_retry {i : Instr} {s t : State} (hi : portOnly i = true) (ht : exec i s = .next t) :
    t.dlt.retry = s.dlt.retry := by
  cases i with
  | popDoneCommit =>
    obtain rfl := next_inj ht
    unfold freeHead
    (repeat' split) <;> rfl
  | transactionBegin _ | badRequest _ _ | popRxCommit =>
    obtain rfl := next_inj ht
    (repeat' split) <;> rfl
  | status _ | readFaults _ | clearFaults _ | readEvents _ | applyPattern _ | softReset _ | readConfig _ =>
    obtain rfl := next_inj ht
    exact takeRequest_retry _ _ _ rfl
  | popRx _ | popDone _ | releaseAll _ =>
    obtain rfl := next_inj ht
    apply takeRequest_retry
    split <;> rfl
  | push _ | claim _ | claimAt _ | release _ | readTable _ | ackEvents _ | setEnables _ | stagePattern _ =>
    obtain rfl := next_inj ht
    apply takeRequest_retry
    dsimp only [pushRule, claimRule, claimAtRule, releaseRule, readTableRule, ackEventsRule, setEnablesRule,
      stagePatternRule]
    (repeat' split) <;> rfl
  | _ => cases hi

/-- R93: JOIN enters LISTENING with the retry list as it stands. -/
theorem join_retry {s t : State} (args : List Byte) (ht : exec (.join args) s = .next t) :
    t.dlt.retry = s.dlt.retry := by
  obtain rfl := next_inj ht
  apply takeRequest_retry
  split
  · simp [accept]
  · rfl

/-- R94, R95. -/
theorem retrySound_withdraw {s t : State} (h : RetrySound s) (args : List Byte)
    (ht : exec (.withdraw args) s = .next t) : RetrySound t := by
  have hrule : RetrySound (withdrawRule s).state := by
    unfold withdrawRule
    split
    case h_4 | h_5 => exact retrySound_withdrawNow s
    all_goals exact h
  obtain rfl := next_inj ht
  rcases takeRequest_cases 0x12#8 args.isEmpty args withdrawRule s with he | ⟨st, he⟩ | ⟨-, he⟩ <;> rw [he]
  · exact h
  · exact h
  · exact hrule

/-- R168, R175. -/
theorem retrySound_transactionEnd {s t : State} (h : RetrySound s) (n : Nat)
    (ht : exec (.transactionEnd n) s = .next t) : RetrySound t := by
  obtain rfl := next_inj ht
  (repeat' split)
  · exact h
  · exact retrySound_of_nil rfl
  · exact h.congr (by simp)
  · exact h

/-! ## The retry list behind every command -/

/-- Of all the commands DATA_PHASE alone can add an entry, of an eligible head. -/
theorem exec_retrySound (i : Instr) (s t : State) (h : RetrySound s) (ht : exec i s = .next t) : RetrySound t := by
  cases i with
  | powerOnReset | pinReset => obtain rfl := next_inj ht; exact retrySound_of_nil rfl
  | start _ _ | readAttemptEnd _ | sclHoldTimeout _ | retryWaitExpiry _ =>
    obtain rfl := next_inj ht
    (repeat' split) <;> exact h.congr (by simp)
  | markerSlotEnd _ | rollSlotDamaged _ _ | dataPhaseDamaged _ _ =>
    obtain rfl := next_inj ht
    dsimp only
    (repeat' split) <;> exact h.congr (by simp)
  | ownMarkerReadBack _ =>
    obtain rfl := next_inj ht
    split
    · dsimp only
      (repeat' split) <;> exact h.congr (by simp)
    · exact h
  | ownRollSlot =>
    obtain rfl := next_inj ht
    (repeat' split) <;> exact h
  | transactionEnd n => exact retrySound_transactionEnd h n ht
  | join args => exact h.congr (join_retry args ht)
  | withdraw args => exact retrySound_withdraw h args ht
  | markerReceived b o p g =>
    obtain rfl := next_inj ht
    exact hear_leads h (fun _ => h) (retrySound_takeMarkerBytes h o g)
      (retrySound_takeMarkerBytes (s := endReception s) h o g)
  | rollWordReceived k b p g =>
    obtain rfl := next_inj ht
    exact hear_leads h (fun _ => h) (retrySound_takeRollBytes h k g)
      (retrySound_takeRollBytes (s := endReception s) h k g)
  | dataFrameReceived k b p g =>
    have htaken : ∀ u bytes, RetrySound u → RetrySound (takeDataBytes k g bytes u) := by
      intro u bytes hu
      unfold takeDataBytes
      (repeat' split) <;> exact hu.congr (by simp)
    obtain rfl := next_inj ht
    exact hear_leads h (fun _ => h) (fun _ => htaken s _ h) (fun _ => htaken (endReception s) _ h)
  | ownRollReadBack r => exact retrySound_ownRollReadBack h r ht
  | ownDataReadBack r => exact h.congr (ownDataReadBack_retry r ht)
  | cycleStart => exact retrySound_cycleStart h ht
  | leaveSlotEnd =>
    obtain rfl := next_inj ht
    split
    · exact retrySound_withdrawNow s
    · exact h
  | rollCallClose =>
    obtain rfl := next_inj ht
    split
    · exact retrySound_close h
    · exact h
  | dataPhase k =>
    obtain rfl := next_inj ht
    split
    · exact retrySound_select h k
    · exact h
  | listenTimerExpiry => exact retrySound_listenTimerExpiry h ht
  | takeoverTimerExpiry => exact retrySound_takeoverTimerExpiry h ht
  | lineFaultTimerExpiry g => exact retrySound_lineFaultTimerExpiry h g ht
  | _ => exact h.congr (portOnly_retry rfl ht)

/-- Settles O51: a step is a command or a clock of the port, and each keeps the retry list sound. -/
theorem theRetryListStaysSound : Obligations.TheRetryListStaysSound :=
  step_keeps (P := RetrySound) (fun _ _ h => h) (fun _ _ _ h => h) exec_retrySound

end Sys2Proof.Machine

namespace Sys2Proof.Machine

/-! ## One recording (R148 to R152) -/

theorem record_seen (f : Fru) (k : FaultKind) (n : Option Half) (st : SyncState) (ctx : FaultCtx) (j : Fin 19) :
    (f.record k n st ctx).seen[j] = if j = k.code then true else f.seen[j] := by
  unfold Fru.record
  dsimp only
  split <;> simp [Vector.getElem_set, Fin.ext_iff, eq_comm]

theorem record_counts (f : Fru) (k : FaultKind) (n : Option Half) (st : SyncState) (ctx : FaultCtx) (j : Fin 19) :
    (f.record k n st ctx).counts[j] = if j = k.code then countUp f.counts[k.code] else f.counts[j] := by
  unfold Fru.record
  dsimp only
  split <;> simp [Vector.getElem_set, Fin.ext_iff, eq_comm]

@[simp] theorem record_mask (f : Fru) (k : FaultKind) (n : Option Half) (st : SyncState) (ctx : FaultCtx) :
    (f.record k n st ctx).mask = f.mask := by
  unfold Fru.record
  dsimp only
  split <;> rfl

/-- R149: a masked kind leaves the first fault and the highest severity. -/
theorem record_masked {f : Fru} {k : FaultKind} (h : masked f.mask k = true) (n : Option Half) (st : SyncState)
    (ctx : FaultCtx) : (f.record k n st ctx).first = f.first ∧ (f.record k n st ctx).highest = f.highest := by
  unfold Fru.record
  simp [h]

/-- R151, R152: an unmasked kind fills an empty first-fault record and raises the highest severity. -/
theorem record_unmasked {f : Fru} {k : FaultKind} (h : masked f.mask k = false) (n : Option Half) (st : SyncState)
    (ctx : FaultCtx) :
    (f.record k n st ctx).first = some (f.first.getD { kind := k, cycle := n, state := st, ctx := ctx }) ∧
      (f.record k n st ctx).highest = f.highest.max k.severity := by
  unfold Fru.record
  cases hf : f.first <;> simp [h]

theorem severityMax_rank (a b : Severity) : (a.max b).rank = max a.rank b.rank := by
  unfold Severity.max
  split <;> omega

theorem Severity.rank_eq_zero {a : Severity} : a.rank = 0 ↔ a = .none := by cases a <;> decide

theorem severity_rank_pos (k : FaultKind) : 0 < k.severity.rank := by cases k <;> decide

/-- R149: the mask has no flag of a FATAL kind. -/
theorem masked_fatal (m : BitVec 15) {k : FaultKind} (h : 15 ≤ k.code.val) : masked m k = false :=
  BitVec.getLsbD_of_ge m k.code.val h

/-- R150, R153: a recording writes FRU and the event set alone. -/
theorem recordFault_eq (k : FaultKind) (ctx : FaultCtx) (s : State) : recordFault k ctx s = { s with
    fru := s.fru.record k s.sync.cycleNumber s.sync.state ctx
    hp := { s.hp with events := if masked s.fru.mask k then s.hp.events else s.hp.events ||| 0x080#9 } } := by
  unfold recordFault
  cases masked s.fru.mask k <;> rfl

/-- R148, R191: the codes run through the severities in order. -/
theorem severity_eq_advisory (k : FaultKind) : k.severity = .advisory ↔ k.code.val ≤ 11 := by cases k <;> decide

theorem severity_eq_fatal (k : FaultKind) : k.severity = .fatal ↔ 15 ≤ k.code.val := by cases k <;> decide

/-- Settles O7: the tables kind by kind, then the recording field by field. -/
theorem aRecordingCountsAndKeepsTheFirst : Obligations.ARecordingCountsAndKeepsTheFirst := by
  refine ⟨⟨severity_eq_advisory, severity_eq_fatal,
    fun m k h => masked_fatal m ((severity_eq_fatal k).mp h), fun _ _ => rfl, rfl⟩, fun k ctx s hs => ?_⟩
  refine ⟨_, recordFault_eq k ctx s, record_seen_self .., ?_, record_mask .., fun j hj => ?_,
    fun hm => record_masked hm .., fun hm => ?_⟩
  · rw [record_counts_self, countUp_eq (hs.counts _)]
  · rw [record_seen, record_counts, if_neg hj, if_neg hj]
    exact ⟨rfl, rfl⟩
  · obtain ⟨hfirst, hhighest⟩ := record_unmasked hm s.sync.cycleNumber s.sync.state ctx
    exact ⟨hfirst, by rw [hhighest, severityMax_rank]⟩

end Sys2Proof.Machine

namespace Sys2Proof.Machine

/-! ## The fault record between two clearings (R149 to R152, R159) -/

/-- R149, R150: what a fault record goes through between two clearings: a recording, and the mask that START sets. -/
inductive Fru.Next (f : Fru) : Fru → Prop
  | recorded (k : FaultKind) (n : Option Half) (st : SyncState) (ctx : FaultCtx) : f.Next (f.record k n st ctx)
  | newMask (m : BitVec 15) : f.Next { f with mask := m }

/-- `g` is `f` after recordings and new masks, and no clearing. -/
def Fru.Later : Fru → Fru → Prop := Relation.ReflTransGen Fru.Next

theorem Fru.Later.keeps {P : Fru → Prop} (recorded : ∀ f k n st ctx, P f → P (f.record k n st ctx))
    (newMask : ∀ f m, P f → P { f with mask := m }) {f g : Fru} (h : f.Later g) (hf : P f) : P g := by
  induction h with
  | refl => exact hf
  | tail _ hstep ih =>
    cases hstep with
    | recorded k n st ctx => exact recorded _ k n st ctx ih
    | newMask m => exact newMask _ m ih

theorem countUp_le {n : Nat} (h : n ≤ 255) : countUp n ≤ 255 := countUp_eq h ▸ Nat.min_le_left ..

theorem countUp_pos (n : Nat) : 0 < countUp n := by unfold countUp; split <;> omega

theorem faultsSound_record {f : Fru} (h : FaultsSound f) (k : FaultKind) (n : Option Half) (st : SyncState)
    (ctx : FaultCtx) : FaultsSound (f.record k n st ctx) where
  counts j := by
    rw [record_counts]
    split
    · exact countUp_le (h.counts _)
    · exact h.counts j
  seen j := by
    rw [record_seen, record_counts]
    split
    · exact ⟨fun _ => countUp_pos _, fun _ => rfl⟩
    · exact h.seen j
  highest := by
    cases hm : masked f.mask k with
    | true =>
      obtain ⟨hfirst, hhighest⟩ := record_masked hm n st ctx
      rw [hfirst, hhighest]
      exact h.highest
    | false =>
      obtain ⟨hfirst, hhighest⟩ := record_unmasked hm n st ctx
      have hpos := severity_rank_pos k
      rw [hfirst, hhighest, ← Severity.rank_eq_zero, severityMax_rank]
      simp
      omega

theorem faultsSound_newMask {f : Fru} (h : FaultsSound f) (m : BitVec 15) : FaultsSound { f with mask := m } :=
  ⟨h.counts, h.seen, h.highest⟩

theorem FaultsSound.later {f g : Fru} (h : FaultsSound f) (hg : f.Later g) : FaultsSound g :=
  hg.keeps (P := FaultsSound) (fun _ k n st ctx hf => faultsSound_record hf k n st ctx)
    (fun _ m hf => faultsSound_newMask hf m) h

/-- R158: the mask stands at a clearing. -/
theorem faultsSound_clear (f : Fru) : FaultsSound f.clear := faultsSound_newMask faultsSound_cleared f.mask

/-- R151: a first fault on record stays there until the next clearing. -/
theorem Fru.Later.first_kept {f g : Fru} {r : FirstFault} (h : f.Later g) (hr : f.first = some r) :
    g.first = some r :=
  h.keeps (P := fun f => f.first = some r) (fun _ k n st ctx hf => record_first_kept hf k n st ctx)
    (fun _ _ hf => hf) hr

/-! ## What a running station does to FRU, the event set and CFG (R150, R160, R180) -/

/-- `t` is `s` after recordings and events set pending, with CFG as it was; the other blocks are not spoken of. -/
structure OnlyAdds (s t : State) : Prop where
  record : s.fru.Later t.fru
  events : ∀ e, s.isPending e = true → t.isPending e = true
  cfg : t.cfg = s.cfg

theorem OnlyAdds.of_events {s t : State} (v : BitVec 9) (hf : t.fru = s.fru)
    (he : t.hp.events = s.hp.events ||| v) (hc : t.cfg = s.cfg) : OnlyAdds s t where
  record := hf ▸ .refl
  events e hs := by
    unfold State.isPending at hs ⊢
    simp [he, hs]
  cfg := hc

theorem OnlyAdds.of_same {s t : State} (hf : t.fru = s.fru) (he : t.hp.events = s.hp.events) (hc : t.cfg = s.cfg) :
    OnlyAdds s t where
  record := hf ▸ .refl
  events e hs := (isPending_congr he e).trans hs
  cfg := hc

theorem OnlyAdds.refl (s : State) : OnlyAdds s s := .of_same rfl rfl rfl

theorem OnlyAdds.trans {s t u : State} (h : OnlyAdds s t) (h' : OnlyAdds t u) : OnlyAdds s u where
  record := Relation.ReflTransGen.trans h.record h'.record
  events e hs := h'.events e (h.events e hs)
  cfg := h'.cfg.trans h.cfg

/-- What an operation does behind a write of the other blocks. -/
theorem OnlyAdds.after {s t u : State} (h : OnlyAdds t u) (hf : t.fru = s.fru) (he : t.hp.events = s.hp.events)
    (hc : t.cfg = s.cfg) : OnlyAdds s u := (OnlyAdds.of_same hf he hc).trans h

theorem onlyAdds_post (e : Event) (s : State) : OnlyAdds s (post e s) := .of_events e.bit rfl rfl rfl

theorem onlyAdds_recordFault (k : FaultKind) (ctx : FaultCtx) (s : State) : OnlyAdds s (recordFault k ctx s) where
  record := by rw [recordFault_fru]; exact .single (.recorded ..)
  events e hs := by rw [recordFault_isPending, hs, Bool.or_true]
  cfg := by simp

theorem onlyAdds_enter (st : SyncState) (s : State) : OnlyAdds s (enter st s) :=
  (onlyAdds_post .syncState _).after rfl rfl rfl

/-! ### Completions, departures and arrivals -/

theorem onlyAdds_complete (st : DoneStatus) (f : TxFrame) (s : State) : OnlyAdds s (complete st f s) := by
  unfold complete
  dsimp only
  split
  · exact (onlyAdds_post .doneReady _).after rfl rfl rfl
  · exact .of_same rfl rfl rfl

theorem onlyAdds_finishEntry (a : Addr) (st : DoneStatus) (s : State) : OnlyAdds s (finishEntry a st s) := by
  unfold finishEntry
  split
  · exact .refl s
  · exact (onlyAdds_complete st _ _).after rfl rfl rfl

theorem onlyAdds_tellDeparted (a : Addr) (s : State) : OnlyAdds s (tellDeparted a s) :=
  (onlyAdds_finishEntry a .destLeft s).trans (.of_same rfl rfl rfl)

theorem onlyAdds_noteDeparture (a : Addr) (why : DepartReason) (s : State) : OnlyAdds s (noteDeparture a why s) :=
  (onlyAdds_post .membership _).after rfl rfl rfl

theorem onlyAdds_departAtMarker (a : Addr) (s : State) : OnlyAdds s (departAtMarker a s) := by
  have htold : OnlyAdds s (tellDeparted a (removePresent a s)) := (onlyAdds_tellDeparted a _).after rfl rfl rfl
  exact htold.trans (onlyAdds_noteDeparture a .marker _)

theorem onlyAdds_departAtClose (a : Addr) (why : DepartReason) (s : State) : OnlyAdds s (departAtClose a why s) := by
  have htold : OnlyAdds s
      (tellDeparted a ((removePresent a s).withPtu { s.ptu with table := coolOwner a s.ptu.table })) :=
    (onlyAdds_tellDeparted a _).after rfl rfl rfl
  unfold departAtClose
  dsimp only
  split
  · exact htold.trans ((onlyAdds_noteDeparture a why _).after rfl rfl rfl)
  · exact htold.trans (onlyAdds_noteDeparture a why _)

theorem onlyAdds_arrive (a : Addr) (d : Bool) (s : State) : OnlyAdds s (arrive a d s) :=
  (onlyAdds_post .membership _).after rfl rfl rfl

/-! ### Changes of the sync state -/

theorem onlyAdds_dropHolder (s : State) : OnlyAdds s (dropHolder s) := by
  unfold dropHolder
  split
  · exact (onlyAdds_post .holder _).after rfl rfl rfl
  · exact .refl s

theorem onlyAdds_leaveActive (s : State) : OnlyAdds s (leaveActive s) :=
  .of_events (eventsOnLeavingActive s) (by simp) (by rw [leaveActive_hp]) (by simp)

theorem onlyAdds_withdrawNow (s : State) : OnlyAdds s (withdrawNow s) := by
  have h := withdrawNow_whole s
  exact .of_events _ h.fru (by rw [h.hp, BitVec.or_assoc, BitVec.or_assoc]) h.cfg

theorem onlyAdds_fatal (k : FaultKind) (ctx : FaultCtx) (s : State) : OnlyAdds s (fatal k ctx s) := by
  unfold fatal
  dsimp only
  split
  · exact (onlyAdds_recordFault k ctx s).trans (onlyAdds_withdrawNow _)
  · exact onlyAdds_recordFault k ctx s

theorem onlyAdds_enterListening (s : State) : OnlyAdds s (enterListening s) :=
  (onlyAdds_enter .listening _).after rfl rfl rfl

theorem onlyAdds_joinLine (s : State) : OnlyAdds s (joinLine s) := (onlyAdds_enterListening _).after rfl rfl rfl

theorem onlyAdds_suspend (s : State) : OnlyAdds s (suspend s) := .of_same (by simp) (by simp) (by simp)

theorem onlyAdds_toRelearn (s : State) : OnlyAdds s (toRelearn s) := by
  unfold toRelearn
  dsimp only
  split
  · exact (onlyAdds_leaveActive s).trans ((onlyAdds_enter .relearn _).after rfl rfl rfl)
  · exact (onlyAdds_leaveActive s).trans ((onlyAdds_enter .relearn _).after rfl rfl rfl)

theorem onlyAdds_degradeToRelearn (k : FaultKind) (ctx : FaultCtx) (s : State) :
    OnlyAdds s (degradeToRelearn k ctx s) := by
  unfold degradeToRelearn
  dsimp only
  split
  · exact (onlyAdds_recordFault k ctx s).trans (onlyAdds_toRelearn _)
  · exact onlyAdds_recordFault k ctx s

theorem onlyAdds_displacementTest (s : State) : OnlyAdds s (displacementTest s) := by
  have hrecord := onlyAdds_recordFault .displaced .none s
  unfold displacementTest
  dsimp only
  (repeat' split)
  · exact hrecord.trans (onlyAdds_withdrawNow _)
  · exact (hrecord.trans (onlyAdds_leaveActive _)).trans ((onlyAdds_enter .joining _).after rfl rfl rfl)
  · exact hrecord.trans ((onlyAdds_enter .learning _).after rfl rfl rfl)
  · exact .refl s

/-! ### Cycle starts and markers -/

theorem onlyAdds_giveUp (f : TxFrame) (s : State) : OnlyAdds s (giveUp f s) :=
  (onlyAdds_complete .unconfirmed f s).trans (onlyAdds_recordFault ..)

theorem onlyAdds_ageEntry (s : State) (e : RetryEntry) : OnlyAdds s (ageEntry s e) := by
  unfold ageEntry
  dsimp only
  (repeat' split)
  · exact onlyAdds_giveUp _ s
  · exact .of_same rfl rfl rfl
  · exact .of_same rfl rfl rfl
  · exact onlyAdds_giveUp _ s
  · exact .of_same rfl rfl rfl

theorem onlyAdds_ageRetryList (s : State) : OnlyAdds s (ageRetryList s) :=
  foldl_holds (P := OnlyAdds s) (fun u e hu => hu.trans (onlyAdds_ageEntry u e)) _ _ (.of_same rfl rfl rfl)

theorem onlyAdds_applyStaged (s : State) : OnlyAdds s (applyStaged s) := by
  unfold applyStaged
  split
  · exact (onlyAdds_post .patternApplied _).after rfl rfl rfl
  · exact .refl s

theorem onlyAdds_produceCycleStart (s : State) : OnlyAdds s (produceCycleStart s) := by
  unfold produceCycleStart
  dsimp only
  refine OnlyAdds.trans ?_ (onlyAdds_applyStaged _)
  split
  · exact (onlyAdds_ageRetryList (cycleBegun s)).after rfl rfl rfl
  · exact .of_same rfl rfl rfl

theorem onlyAdds_markerTiming (m : Marker) (o : Int) (restart : Bool) (s : State) :
    OnlyAdds s (markerTiming m o restart s) := by
  cases restart
  · exact .of_same rfl rfl rfl
  · refine OnlyAdds.trans (t := produceCycleStart (cutTransmission ((foldMark s).withSync _))) ?_
      (.of_same rfl rfl rfl)
    exact (onlyAdds_produceCycleStart _).after rfl rfl rfl

theorem onlyAdds_markerLearn (s : State) : OnlyAdds s (markerLearn s) := by
  unfold markerLearn
  split
  · exact (onlyAdds_enter .learning _).after rfl rfl rfl
  · exact .refl s

theorem onlyAdds_learningFailure (s : State) : OnlyAdds s (learningFailure s) := by
  unfold learningFailure
  dsimp only
  split
  · exact .of_same rfl rfl rfl
  · exact (onlyAdds_fatal _ _ _).after rfl rfl rfl

theorem onlyAdds_markerCompare (m : Marker) (s : State) : OnlyAdds s (markerCompare m s) := by
  unfold markerCompare
  (repeat' split)
  · exact .refl s
  · exact onlyAdds_degradeToRelearn _ _ s
  · exact (onlyAdds_enter _ _).after rfl rfl rfl
  · exact onlyAdds_learningFailure s
  · exact .refl s

theorem onlyAdds_adoptAddress (m : Marker) (s : State) (a : Addr) : OnlyAdds s (adoptAddress m s a) := by
  unfold adoptAddress
  (repeat' split)
  · exact .refl s
  · exact onlyAdds_departAtMarker a s
  · exact onlyAdds_arrive a _ s
  · exact .refl s

theorem onlyAdds_adoptPresence (m : Marker) (s : State) : OnlyAdds s (adoptPresence m s) := by
  have hdecided : OnlyAdds s ((List.finRange 32).foldl (adoptAddress m) s) :=
    foldl_holds (fun u a hu => hu.trans (onlyAdds_adoptAddress m u a)) _ s (.refl s)
  unfold adoptPresence
  dsimp only
  generalize (List.finRange 32).foldl (adoptAddress m) s = u at hdecided
  exact hdecided.trans (.of_same rfl rfl rfl)

theorem onlyAdds_markerSegment (m : Marker) (s : State) : OnlyAdds s (markerSegment m s) :=
  .of_same (by simp) (by simp) (by simp)

theorem onlyAdds_takeMarker (m : Marker) (o : Int) (restart : Bool) (s : State) :
    OnlyAdds s (takeMarker m o restart s) := by
  have hcompared := ((onlyAdds_markerTiming m o restart s).trans (onlyAdds_markerLearn _)).trans
    (onlyAdds_markerCompare m _)
  unfold takeMarker
  dsimp only
  split
  · exact hcompared
  · exact ((hcompared.trans (onlyAdds_adoptPresence m _)).trans (onlyAdds_displacementTest _)).trans
      (onlyAdds_markerSegment m _)

theorem onlyAdds_handleMarker (m : Marker) (o : Int) (s : State) : OnlyAdds s (handleMarker m o s) := by
  unfold handleMarker
  (repeat' split)
  · exact .refl s
  · exact onlyAdds_fatal _ _ s
  · exact onlyAdds_takeMarker m o true s
  · exact (onlyAdds_dropHolder s).trans (onlyAdds_takeMarker m o true _)
  · exact .refl s
  · exact onlyAdds_takeMarker m o true s
  · exact onlyAdds_takeMarker m o false s
  · exact .refl s

theorem onlyAdds_takeMarkerBytes (o : Int) (g : Bool) (b : List Byte) (s : State) :
    OnlyAdds s (takeMarkerBytes o g b s) := by
  unfold takeMarkerBytes
  (repeat' split)
  · exact .refl s
  · exact onlyAdds_recordFault _ _ s
  · exact .refl s
  · exact onlyAdds_handleMarker _ o s

theorem onlyAdds_markerLost (s : State) : OnlyAdds s (markerLost s) := by
  have hrecord := onlyAdds_recordFault .markerLost .none s
  unfold markerLost
  dsimp only
  split
  · exact hrecord.trans (.of_same rfl rfl rfl)
  · exact hrecord.trans ((onlyAdds_suspend _).after rfl rfl rfl)

/-! ### Roll words and data frames -/

theorem onlyAdds_takeAck (x : Addr) (s : State) (q : Byte) : OnlyAdds s (takeAck x s q) := by
  unfold takeAck
  (repeat' split)
  · exact onlyAdds_recordFault _ _ s
  · exact onlyAdds_finishEntry x _ s
  · exact onlyAdds_recordFault _ _ s

theorem onlyAdds_acceptRollWord (k : Addr) (w : RollWord) (s : State) : OnlyAdds s (acceptRollWord k w s) := by
  rw [acceptRollWord_eq]
  have hacked : OnlyAdds s ((ownAcks w s).foldl (takeAck k) s) :=
    foldl_holds (fun u q hu => hu.trans (onlyAdds_takeAck k u q)) _ s (.refl s)
  exact hacked.trans (.of_same rfl rfl rfl)

theorem onlyAdds_checkRollWord (k : Addr) (w : RollWord) (s : State) : OnlyAdds s (checkRollWord k w s) := by
  unfold checkRollWord
  (repeat' split)
  · exact onlyAdds_recordFault _ _ s
  · exact onlyAdds_fatal _ _ s
  · exact onlyAdds_recordFault _ _ s
  · exact onlyAdds_recordFault _ _ s
  · exact onlyAdds_acceptRollWord k w s

theorem onlyAdds_reportRollWord (k : Addr) (w : RollWord) (s : State) : OnlyAdds s (reportRollWord k w s) := by
  unfold reportRollWord
  (repeat' split)
  · exact onlyAdds_recordFault _ _ s
  · exact onlyAdds_recordFault _ _ s
  · exact onlyAdds_recordFault _ _ s
  · exact .refl s

theorem onlyAdds_takeRollBytes (k : Addr) (g : Bool) (b : List Byte) (s : State) :
    OnlyAdds s (takeRollBytes k g b s) := by
  unfold takeRollBytes
  (repeat' split)
  · exact onlyAdds_recordFault _ _ s
  · exact onlyAdds_reportRollWord k _ s
  · exact .refl s
  · exact (onlyAdds_recordFault _ _ (rollHad k s)).after rfl rfl rfl
  · exact (onlyAdds_checkRollWord k _ (rollHad k s)).after rfl rfl rfl
  · exact .refl s

theorem onlyAdds_rollCollision (s : State) : OnlyAdds s (rollCollision s) := by
  unfold rollCollision
  dsimp only
  split
  · exact .of_same rfl rfl rfl
  · exact (onlyAdds_fatal _ _ _).after rfl rfl rfl

theorem onlyAdds_enqueueRx (r : RxRecord) (s : State) : OnlyAdds s (enqueueRx r s) := by
  unfold enqueueRx
  dsimp only
  split
  · exact (onlyAdds_post .rxReady _).after rfl rfl rfl
  · exact .of_same rfl rfl rfl

theorem onlyAdds_receiveUnicast (r : RxRecord) (ctx : FaultCtx) (s : State) :
    OnlyAdds s (receiveUnicast r ctx s) := by
  have hqueued := onlyAdds_enqueueRx r s
  unfold receiveUnicast
  dsimp only
  (repeat' split)
  · exact .of_same rfl rfl rfl
  · exact onlyAdds_recordFault _ _ s
  · exact hqueued.trans ((onlyAdds_recordFault _ _ _).after rfl rfl rfl)
  · exact hqueued.trans (.of_same rfl rfl rfl)

theorem onlyAdds_receiveBroadcast (r : RxRecord) (ctx : FaultCtx) (s : State) :
    OnlyAdds s (receiveBroadcast r ctx s) := by
  unfold receiveBroadcast
  split
  · exact onlyAdds_recordFault _ _ s
  · exact onlyAdds_enqueueRx r s

theorem onlyAdds_checkDataFrame (k : Phase) (f : DataFrame) (s : State) : OnlyAdds s (checkDataFrame k f s) := by
  unfold checkDataFrame
  dsimp only
  (repeat' split)
  · exact .refl s
  · exact onlyAdds_recordFault _ _ s
  · exact onlyAdds_receiveBroadcast _ _ s
  · exact onlyAdds_receiveUnicast _ _ s
  · exact onlyAdds_recordFault _ _ s

theorem onlyAdds_reportDataFrame (k : Phase) (f : DataFrame) (s : State) : OnlyAdds s (reportDataFrame k f s) := by
  unfold reportDataFrame
  split
  · exact onlyAdds_recordFault _ _ s
  · exact .refl s

theorem onlyAdds_actOnPhase (k : Phase) (f : Option DataFrame) (s : State) : OnlyAdds s (actOnPhase k f s) := by
  unfold actOnPhase
  (repeat' split)
  · exact onlyAdds_recordFault _ _ s
  · exact onlyAdds_checkDataFrame k _ s
  · exact .refl s

theorem onlyAdds_takeDataBytes (k : Phase) (g : Bool) (b : List Byte) (s : State) :
    OnlyAdds s (takeDataBytes k g b s) := by
  unfold takeDataBytes
  (repeat' split)
  · exact onlyAdds_recordFault _ _ s
  · exact onlyAdds_reportDataFrame k _ s
  · exact .refl s
  · exact (onlyAdds_actOnPhase k _ (phaseHad k s)).after rfl rfl rfl
  · exact .refl s

theorem onlyAdds_finishBroadcast (c : Cls) (st : DoneStatus) (s : State) : OnlyAdds s (finishBroadcast c st s) := by
  unfold finishBroadcast
  split
  · exact .refl s
  · exact (onlyAdds_complete st _ _).after rfl rfl rfl

theorem onlyAdds_readBackDone (k : Phase) (bcast : Option Cls) (ok : Bool) (s : State) :
    OnlyAdds s (readBackDone k bcast ok s) := by
  unfold readBackDone
  split
  · exact .of_same rfl rfl rfl
  · exact (onlyAdds_finishBroadcast _ _ (phaseHad k (cutTransmission s))).after rfl rfl rfl

theorem onlyAdds_phaseClean (s : State) : OnlyAdds s (phaseClean s) := .of_same (by simp) (by simp) (by simp)

theorem onlyAdds_phaseCollision (k : Phase) (s : State) : OnlyAdds s (phaseCollision k s) := by
  have hrecord := onlyAdds_recordFault .txCollision (.phase k) s
  unfold phaseCollision
  dsimp only
  (repeat' split)
  · exact hrecord
  · exact hrecord.trans (.of_same rfl rfl rfl)
  · exact hrecord.trans (onlyAdds_degradeToRelearn _ _ _)

/-! ### Selection, the close and the takeover -/

theorem onlyAdds_dropAbsent (c : Cls) (l : List TxFrame) (s : State) : OnlyAdds s (dropAbsent c l s) := by
  induction l generalizing s with
  | nil => exact .of_same rfl rfl rfl
  | cons f rest ih =>
    unfold dropAbsent
    split
    · exact ((onlyAdds_complete .noDestination f _).trans (ih _)).after rfl rfl rfl
    · exact .of_same rfl rfl rfl

theorem onlyAdds_sendHead (k : Phase) (i : Fin 16) (c : Cls) (f : TxFrame) (rest : List TxFrame) (s : State) :
    OnlyAdds s (sendHead k i c f rest s) := .of_same (by simp) (by simp) (by simp)

theorem onlyAdds_walk (k : Phase) (n : Nat) (i : Fin 16) (s : State) : OnlyAdds s (walk k n i s) := by
  induction n generalizing i s with
  | zero => exact .refl s
  | succ n ih =>
    have hdropped := onlyAdds_dropAbsent s.txe.pattern[i] (s.txe.queue s.txe.pattern[i]) s
    unfold walk
    dsimp only
    (repeat' split)
    · exact hdropped.trans (ih _ _)
    · exact hdropped.trans (onlyAdds_sendHead ..)
    · exact hdropped.trans (ih _ _)

theorem onlyAdds_select (k : Phase) (s : State) : OnlyAdds s (select k s) := by
  unfold select
  split
  · exact .of_same rfl rfl rfl
  · exact onlyAdds_walk k 16 _ s

theorem onlyAdds_decideOwn (s : State) : OnlyAdds s (decideOwn s) := by
  unfold decideOwn
  (repeat' split)
  · exact .refl s
  · exact (onlyAdds_departAtClose _ _ s).trans (onlyAdds_arrive _ _ _)
  · exact onlyAdds_arrive _ _ s
  · exact .refl s
  · exact .of_same rfl rfl rfl
  · exact .refl s

theorem onlyAdds_decidePeer (a : Addr) (s : State) : OnlyAdds s (decidePeer a s) := by
  unfold decidePeer
  (repeat' split)
  · exact onlyAdds_departAtClose a _ s
  · exact .of_same rfl rfl rfl
  · exact onlyAdds_departAtClose a _ s
  · exact (onlyAdds_departAtClose a _ s).trans (onlyAdds_arrive a _ _)
  · exact .of_same rfl rfl rfl
  · exact onlyAdds_arrive a _ s
  · exact .refl s
  · exact .refl s

theorem onlyAdds_decideMember (s : State) (a : Addr) : OnlyAdds s (decideMember s a) := by
  unfold decideMember
  split
  · exact onlyAdds_decideOwn s
  · exact onlyAdds_decidePeer a s

theorem onlyAdds_membershipStage (s : State) : OnlyAdds s (membershipStage s) := by
  have hdecided : OnlyAdds s ((List.finRange 32).foldl decideMember
      (s.withRcm { s.rcm with disagreeing := s.rcm.tally, tally := 0 })) :=
    foldl_holds (fun u a hu => hu.trans (onlyAdds_decideMember u a)) _ _ (.of_same rfl rfl rfl)
  unfold membershipStage
  dsimp only
  generalize List.foldl decideMember _ _ = u at hdecided ⊢
  exact hdecided.trans (.of_same rfl rfl rfl)

theorem onlyAdds_closeTabled (s : State) : OnlyAdds s (closeTabled s) :=
  (onlyAdds_membershipStage s).trans
    (.of_same (by simp [closeTabled]) (by simp [closeTabled]) (by simp [closeTabled]))

theorem onlyAdds_applyCarried (s : State) : OnlyAdds s (applyCarried s) := by
  unfold applyCarried
  dsimp only
  (repeat' split)
  · exact .of_same rfl rfl rfl
  · exact (onlyAdds_post .releaseEnd _).after rfl rfl rfl
  · exact .of_same rfl rfl rfl

theorem onlyAdds_evaluateClaim (l : List Phase) (s : State) : OnlyAdds s (evaluateClaim l s) := by
  unfold evaluateClaim
  dsimp only
  (repeat' split)
  · exact .refl s
  · exact (onlyAdds_post .claimEnd _).after rfl rfl rfl
  · exact .of_same rfl rfl rfl

theorem onlyAdds_close (s : State) : OnlyAdds s (close s) := by
  have hsettled : OnlyAdds s (closeSettled s) :=
    ((onlyAdds_closeTabled s).trans (onlyAdds_applyCarried _)).trans (onlyAdds_evaluateClaim _ _)
  rw [close_eq]
  split
  · exact hsettled.trans (onlyAdds_enter .active _)
  · exact hsettled

theorem onlyAdds_foundBus (s : State) : OnlyAdds s (foundBus s) :=
  ((onlyAdds_enter .active _).trans (onlyAdds_post .holder _)).after rfl rfl rfl

theorem onlyAdds_takeTiming (s : State) : OnlyAdds s (takeTiming s) := (onlyAdds_post .holder _).after rfl rfl rfl

end Sys2Proof.Machine

namespace Sys2Proof.Machine

/-! ## What each command adds -/

theorem onlyAdds_markerSlotEnd {s t : State} (g : Bool) (ht : exec (.markerSlotEnd g) s = .next t) :
    OnlyAdds s t := by
  obtain rfl := next_inj ht
  dsimp only
  (repeat' split)
  · exact onlyAdds_recordFault _ _ s
  · exact .refl s
  · exact (onlyAdds_markerLost _).after rfl rfl rfl
  · exact .of_same rfl rfl rfl

/-- R11, R86. -/
theorem onlyAdds_ownMarkerReadBack {s t : State} (r : Reception) (ht : exec (.ownMarkerReadBack r) s = .next t) :
    OnlyAdds s t := by
  have hrecord : OnlyAdds s (recordFault .txCollision .none (cutTransmission s)) :=
    (onlyAdds_recordFault ..).after rfl rfl rfl
  obtain rfl := next_inj ht
  split
  · dsimp only
    (repeat' split)
    · exact .of_same rfl rfl rfl
    · exact hrecord.trans (.of_same rfl rfl rfl)
    · exact hrecord.trans (((onlyAdds_dropHolder _).trans (onlyAdds_suspend _)).after rfl rfl rfl)
  · exact .refl s

/-- R11, R39. -/
theorem onlyAdds_ownRollReadBack {s t : State} (r : Reception) (ht : exec (.ownRollReadBack r) s = .next t) :
    OnlyAdds s t := by
  obtain rfl := next_inj ht
  split
  · dsimp only
    (repeat' split)
    · exact .of_same rfl rfl rfl
    · exact .of_same rfl rfl rfl
    · exact (onlyAdds_fatal _ _ _).after rfl rfl rfl
    · exact (onlyAdds_rollCollision _).after rfl rfl rfl
  · exact .refl s

/-- R11, R111, R112. -/
theorem onlyAdds_ownDataReadBack {s t : State} (r : Reception) (ht : exec (.ownDataReadBack r) s = .next t) :
    OnlyAdds s t := by
  by_cases htx : ∃ k c b, s.lif.tx = some { frame := .data k c, bytes := b }
  · obtain ⟨k, c, b, htx⟩ := htx
    rw [exec_ownDataReadBack htx] at ht
    obtain rfl := next_inj ht
    split
    · exact (onlyAdds_readBackDone k c true s).trans (onlyAdds_phaseClean _)
    · exact (onlyAdds_readBackDone k c false s).trans (onlyAdds_phaseCollision k _)
  · obtain rfl := next_inj ht
    split
    · exact absurd ⟨_, _, _, ‹_›⟩ htx
    · exact .refl s

/-- R14, R85: a cycle start and the holder's marker in it. -/
theorem onlyAdds_markedCycleStart (s : State) : OnlyAdds s (sendMarker (produceCycleStart s)) :=
  (onlyAdds_produceCycleStart s).trans (.of_same rfl rfl rfl)

/-- R14, R85, R89. -/
theorem onlyAdds_cycleStart {s t : State} (ht : exec .cycleStart s = .next t) : OnlyAdds s t := by
  obtain rfl := next_inj ht
  dsimp only
  (repeat' split)
  · exact (onlyAdds_suspend _).after rfl rfl rfl
  · exact (onlyAdds_markedCycleStart _).after rfl rfl rfl
  · exact (onlyAdds_produceCycleStart _).after rfl rfl rfl
  · exact .refl s

theorem onlyAdds_ownRollSlot {s t : State} (ht : exec .ownRollSlot s = .next t) : OnlyAdds s t := by
  obtain rfl := next_inj ht
  (repeat' split) <;> exact .of_same rfl rfl rfl

/-- R90, R94. -/
theorem onlyAdds_listenTimerExpiry {s t : State} (ht : exec .listenTimerExpiry s = .next t) : OnlyAdds s t := by
  obtain rfl := next_inj ht
  (repeat' split)
  · exact .of_same rfl rfl rfl
  · exact onlyAdds_withdrawNow s
  · exact (onlyAdds_enterListening _).after rfl rfl rfl
  · exact .refl s
  · exact .refl s

/-- R91, R92. -/
theorem onlyAdds_takeoverTimerExpiry {s t : State} (ht : exec .takeoverTimerExpiry s = .next t) :
    OnlyAdds s t := by
  obtain rfl := next_inj ht
  (repeat' split)
  · exact (onlyAdds_foundBus s).trans (onlyAdds_markedCycleStart _)
  · exact onlyAdds_withdrawNow s
  · exact (onlyAdds_takeTiming s).trans (onlyAdds_markedCycleStart _)
  · exact .refl s
  · exact .refl s

theorem onlyAdds_lineFaultTimerExpiry {s t : State} (g : Bool)
    (ht : exec (.lineFaultTimerExpiry g) s = .next t) : OnlyAdds s t := by
  obtain rfl := next_inj ht
  (repeat' split)
  · exact onlyAdds_recordFault _ _ s
  · exact .refl s
  · exact (onlyAdds_fatal _ _ _).after rfl rfl rfl
  · exact .refl s

theorem onlyAdds_rollSlotDamaged {s t : State} (k : Addr) (g : Bool)
    (ht : exec (.rollSlotDamaged k g) s = .next t) : OnlyAdds s t := by
  obtain rfl := next_inj ht
  dsimp only
  (repeat' split)
  · exact onlyAdds_recordFault _ _ s
  · exact .refl s
  · exact (onlyAdds_recordFault _ _ _).after rfl rfl rfl
  · exact .of_same rfl rfl rfl

theorem onlyAdds_dataPhaseDamaged {s t : State} (k : Phase) (g : Bool)
    (ht : exec (.dataPhaseDamaged k g) s = .next t) : OnlyAdds s t := by
  obtain rfl := next_inj ht
  dsimp only
  (repeat' split)
  · exact onlyAdds_recordFault _ _ s
  · exact .refl s
  · exact (onlyAdds_actOnPhase _ _ _).after rfl rfl rfl
  · exact .of_same rfl rfl rfl

/-! ### The host port -/

/-- R172: a request adds what its rule adds. -/
theorem onlyAdds_takeRequest {s : State} (code : Byte) (ok : Bool) (args : List Byte) {rule : State → Result}
    (h : OnlyAdds s (rule s).state) : OnlyAdds s (takeRequest code ok args rule s) := by
  rcases takeRequest_cases code ok args rule s with he | ⟨st, he⟩ | ⟨-, he⟩ <;> rw [he]
  · exact .refl s
  · exact .of_same rfl rfl rfl
  · exact h.trans (.of_same rfl rfl rfl)

/-- R94. -/
theorem onlyAdds_withdrawRule (s : State) : OnlyAdds s (withdrawRule s).state := by
  unfold withdrawRule
  split
  case h_4 | h_5 => exact onlyAdds_withdrawNow s
  all_goals exact .of_same rfl rfl rfl

/-- R173, R175: CS_N rises without an accepted soft reset. -/
theorem onlyAdds_transactionEnd {s t : State} (n : Nat) (hr : s.hp.softReset = false)
    (ht : exec (.transactionEnd n) s = .next t) : OnlyAdds s t := by
  obtain rfl := next_inj ht
  rw [hr]
  (repeat' split)
  · exact .refl s
  · contradiction
  · exact (onlyAdds_recordFault _ _ _).after rfl rfl rfl
  · exact .of_same rfl rfl rfl

/-- The commands of the port that clear neither the fault record nor an event. -/
theorem onlyAdds_portOnly {i : Instr} {s t : State} (hi : portOnly i = true) (hc : ∀ l, i ≠ .clearFaults l)
    (ha : ∀ l, i ≠ .ackEvents l) (ht : exec i s = .next t) : OnlyAdds s t := by
  cases i with
  | clearFaults l => exact absurd rfl (hc l)
  | ackEvents l => exact absurd rfl (ha l)
  | transactionBegin _ | badRequest _ _ | popRxCommit =>
    obtain rfl := next_inj ht
    (repeat' split) <;> exact .of_same rfl rfl rfl
  | popDoneCommit =>
    obtain rfl := next_inj ht
    (repeat' split) <;> exact .of_same (by simp) (by simp [replyDone]) (by simp)
  | status _ | readFaults _ | readEvents _ | applyPattern _ | softReset _ | readConfig _ =>
    obtain rfl := next_inj ht
    exact onlyAdds_takeRequest _ _ _ (.of_same rfl rfl rfl)
  | popRx _ | popDone _ | releaseAll _ =>
    obtain rfl := next_inj ht
    apply onlyAdds_takeRequest
    split <;> exact .of_same rfl rfl rfl
  | push _ | claim _ | claimAt _ | release _ | readTable _ | setEnables _ | stagePattern _ =>
    obtain rfl := next_inj ht
    apply onlyAdds_takeRequest
    dsimp only [pushRule, claimRule, claimAtRule, releaseRule, readTableRule, setEnablesRule, stagePatternRule]
    (repeat' split) <;> exact .of_same rfl rfl rfl
  | _ => cases hi

/-! ### Every command of a running station -/

/-- R168: the resets and the commands of START. -/
def startsOver : Instr → Bool
  | .powerOnReset | .pinReset | .start _ _ | .readAttemptEnd _ | .sclHoldTimeout _ | .retryWaitExpiry _ => true
  | _ => false

/-- A command that is neither a reset nor one of START and clears nothing only adds. -/
theorem exec_onlyAdds {i : Instr} {s t : State} (hs : startsOver i = false) (hc : ∀ l, i ≠ .clearFaults l)
    (ha : ∀ l, i ≠ .ackEvents l) (hr : ∀ n, i ≠ .transactionEnd n ∨ s.hp.softReset = false)
    (ht : exec i s = .next t) : OnlyAdds s t := by
  cases i with
  | powerOnReset | pinReset | start _ _ | readAttemptEnd _ | sclHoldTimeout _ | retryWaitExpiry _ => cases hs
  | transactionEnd n => exact onlyAdds_transactionEnd n ((hr n).resolve_left fun h => h rfl) ht
  | join args =>
    obtain rfl := next_inj ht
    apply onlyAdds_takeRequest
    split
    · exact onlyAdds_joinLine s
    · exact .refl s
  | withdraw args =>
    obtain rfl := next_inj ht
    exact onlyAdds_takeRequest _ _ _ (onlyAdds_withdrawRule s)
  | markerReceived b o p g =>
    obtain rfl := next_inj ht
    exact hear_leads (.refl s) (fun _ => .of_same rfl rfl rfl) (fun _ => onlyAdds_takeMarkerBytes o g _ s)
      fun _ => (onlyAdds_takeMarkerBytes o g _ (endReception s)).after rfl rfl rfl
  | rollWordReceived k b p g =>
    obtain rfl := next_inj ht
    exact hear_leads (.refl s) (fun _ => .of_same rfl rfl rfl) (fun _ => onlyAdds_takeRollBytes k g _ s)
      fun _ => (onlyAdds_takeRollBytes k g _ (endReception s)).after rfl rfl rfl
  | dataFrameReceived k b p g =>
    obtain rfl := next_inj ht
    exact hear_leads (.refl s) (fun _ => .of_same rfl rfl rfl) (fun _ => onlyAdds_takeDataBytes k g _ s)
      fun _ => (onlyAdds_takeDataBytes k g _ (endReception s)).after rfl rfl rfl
  | markerSlotEnd g => exact onlyAdds_markerSlotEnd g ht
  | rollSlotDamaged k g => exact onlyAdds_rollSlotDamaged k g ht
  | dataPhaseDamaged k g => exact onlyAdds_dataPhaseDamaged k g ht
  | ownMarkerReadBack r => exact onlyAdds_ownMarkerReadBack r ht
  | ownRollReadBack r => exact onlyAdds_ownRollReadBack r ht
  | ownDataReadBack r => exact onlyAdds_ownDataReadBack r ht
  | cycleStart => exact onlyAdds_cycleStart ht
  | ownRollSlot => exact onlyAdds_ownRollSlot ht
  | leaveSlotEnd =>
    obtain rfl := next_inj ht
    split
    · exact onlyAdds_withdrawNow s
    · exact .refl s
  | rollCallClose =>
    obtain rfl := next_inj ht
    split
    · exact onlyAdds_close s
    · exact .refl s
  | dataPhase k =>
    obtain rfl := next_inj ht
    split
    · exact onlyAdds_select k s
    · exact .refl s
  | listenTimerExpiry => exact onlyAdds_listenTimerExpiry ht
  | takeoverTimerExpiry => exact onlyAdds_takeoverTimerExpiry ht
  | lineFaultTimerExpiry g => exact onlyAdds_lineFaultTimerExpiry g ht
  | _ => exact onlyAdds_portOnly rfl hc ha ht

/-! ## The fault record behind every command (R158, R159, R168) -/

section
variable {f : Fru} {s : State}

/-- R149, R164: START sets the mask and may record CONFIG_DEFAULTED. -/
theorem later_finishStart (hf : s.fru = f) (c : Configuration) (src : ConfigSource) (why : Option FailReason) :
    f.Later (finishStart c src why s).fru := by
  have hleave : ∀ u, (leaveStart u).fru = u.fru := fun u => by simp
  have hmask : f.Later { s.fru with mask := c.mask } := .single (hf ▸ .newMask c.mask)
  unfold finishStart
  dsimp only
  rw [hleave]
  split
  · rw [recordFault_fru]
    exact hmask.tail (.recorded ..)
  · exact hmask

theorem later_attemptFailed (hf : s.fru = f) (why : FailReason) : f.Later (attemptFailed why s).fru := by
  unfold attemptFailed
  split
  · exact hf ▸ .refl
  · exact later_finishStart hf _ _ _

theorem later_beginAttempt (hf : s.fru = f) (n : Nat) : f.Later (beginAttempt n s).fru := by
  unfold beginAttempt
  dsimp only
  split
  · exact hf ▸ .refl
  · exact later_attemptFailed (by exact hf) .busFault

end

/-- R160 to R167: the commands of START clear nothing of the record. -/
theorem later_start {s t : State} {i : Instr} (hi : startsOver i = true) (hp : i ≠ .powerOnReset)
    (ht : exec i s = .next t) : s.fru.Later t.fru := by
  cases i with
  | powerOnReset => exact absurd rfl hp
  | pinReset => obtain rfl := next_inj ht; exact .refl
  | start p n =>
    obtain rfl := next_inj ht
    dsimp only
    (repeat' split)
    · exact later_beginAttempt (by rfl) n
    · exact later_finishStart (by rfl) _ _ _
    · exact .refl
  | readAttemptEnd r =>
    obtain rfl := next_inj ht
    dsimp only
    (repeat' split)
    · exact later_finishStart (by rfl) _ _ _
    · exact later_finishStart (by rfl) _ _ _
    · exact later_attemptFailed (by rfl) _
    · exact .refl
  | sclHoldTimeout n =>
    obtain rfl := next_inj ht
    split
    · exact later_attemptFailed (by rfl) _
    · exact .refl
  | retryWaitExpiry n =>
    obtain rfl := next_inj ht
    split
    · exact later_beginAttempt (by rfl) n
    · exact .refl
  | _ => cases hi

/-- R168, R175: a soft reset keeps the record. -/
theorem later_transactionEnd {s t : State} (n : Nat) (ht : exec (.transactionEnd n) s = .next t) :
    s.fru.Later t.fru := by
  cases hr : s.hp.softReset with
  | false => exact (onlyAdds_transactionEnd n hr ht).record
  | true =>
    obtain rfl := next_inj ht
    rw [hr]
    split
    · exact .refl
    · exact .refl

/-- R183: ACK_EVENTS clears events, not faults. -/
theorem ackEvents_fru {s t : State} (l : List Byte) (ht : exec (.ackEvents l) s = .next t) : t.fru = s.fru := by
  obtain rfl := next_inj ht
  apply takeRequest_keeps State.fru fun _ _ => rfl
  unfold ackEventsRule
  split <;> rfl

/-- R151, R158, R159: of all the commands a power-on reset and CLEAR_FAULTS alone clear the record. -/
theorem exec_later {i : Instr} {s t : State} (hp : i ≠ .powerOnReset) (hc : ∀ l, i ≠ .clearFaults l)
    (ht : exec i s = .next t) : s.fru.Later t.fru := by
  by_cases hs : startsOver i = true
  · exact later_start hs hp ht
  · cases i with
    | transactionEnd n => exact later_transactionEnd n ht
    | ackEvents l => rw [ackEvents_fru l ht]; exact .refl
    | _ => exact (exec_onlyAdds (by simpa using hs) hc (by simp) (by simp) ht).record

/-- R158: what CLEAR_FAULTS leaves of the record. -/
theorem clearFaults_fru {s t : State} (l : List Byte) (ht : exec (.clearFaults l) s = .next t) :
    t.fru = s.fru ∨ t.fru = s.fru.clear := by
  obtain rfl := next_inj ht
  rcases takeRequest_cases 0x0B#8 l.isEmpty l (fun s => accept (s.withFru s.fru.clear)) s with
    he | ⟨st, he⟩ | ⟨-, he⟩ <;> rw [he]
  · exact .inl rfl
  · exact .inl rfl
  · exact .inr rfl

theorem exec_faultsSound (i : Instr) (s t : State) (h : FaultsSound s.fru) (ht : exec i s = .next t) :
    FaultsSound t.fru := by
  cases i with
  | powerOnReset => obtain rfl := next_inj ht; exact faultsSound_cleared
  | clearFaults l =>
    rcases clearFaults_fru l ht with he | he <;> rw [he]
    · exact h
    · exact faultsSound_clear s.fru
  | _ => exact h.later (exec_later (by simp) (by simp) ht)

/-- Settles O57: a step is a command or a clock of the port, and each keeps the fault record sound. -/
theorem theFaultRecordStaysSound : Obligations.TheFaultRecordStaysSound :=
  step_keeps (P := fun s => FaultsSound s.fru) (fun _ _ h => h) (fun _ _ _ h => h) exec_faultsSound

/-! ## What outlasts the commands (R151, R160, R180) -/

/-- R158: CLEAR_FAULTS leaves CFG and the pending events. -/
theorem clearFaults_kept {s t : State} (l : List Byte) (ht : exec (.clearFaults l) s = .next t) :
    t.hp.events = s.hp.events ∧ t.cfg = s.cfg := by
  refine ⟨?_, (exec_sameLine rfl ht).cfg⟩
  obtain rfl := next_inj ht
  rcases takeRequest_cases 0x0B#8 l.isEmpty l (fun s => accept (s.withFru s.fru.clear)) s with
    he | ⟨st, he⟩ | ⟨-, he⟩ <;> rw [he] <;> rfl

theorem startsOver_eq_false {i : Instr} (hp : i ≠ .powerOnReset) (hr : i ≠ .pinReset) (hs : ∀ p n, i ≠ .start p n)
    (ha : ∀ r, i ≠ .readAttemptEnd r) (hh : ∀ n, i ≠ .sclHoldTimeout n) (hw : ∀ n, i ≠ .retryWaitExpiry n) :
    startsOver i = false := by
  cases i <;> simp_all [startsOver]

/-- Settles O59: the first fault by what happens to the record, CFG and the events by what a command adds. -/
theorem recordsThatOutlastCommands : Obligations.RecordsThatOutlastCommands := by
  refine ⟨fun i s t f hf hp hc ht => (exec_later hp hc ht).first_kept hf,
    fun i s t ht hp hr hs ha hh hw hsoft => ?_, fun i s t e ht he hack hp hr hs ha hh hw hsoft => ?_⟩
  · have hrun := startsOver_eq_false hp hr hs ha hh hw
    cases i with
    | ackEvents l | clearFaults l => exact (exec_sameLine rfl ht).cfg
    | _ => exact (exec_onlyAdds hrun (by simp) (by simp) hsoft ht).cfg
  · have hrun := startsOver_eq_false hp hr hs ha hh hw
    cases i with
    | clearFaults l => exact (isPending_congr (clearFaults_kept l ht).1 e).trans he
    | _ => exact (exec_onlyAdds hrun (by simp) hack hsoft ht).events e he

end Sys2Proof.Machine

namespace Sys2Proof.Machine

/-! ## The blocks that START finds at their reset values (R166, R168, R169) -/

/-- R166, R169: LIF, SYNC, PTU, RCM, CRU, TXE, DLT and RXE stand at their reset values. -/
structure AtReset (s : State) : Prop where
  lif : s.lif = Lif.reset
  sync : s.sync = Sync.reset
  ptu : s.ptu = Ptu.reset
  rcm : s.rcm = Rcm.reset
  cru : s.cru = Cru.reset
  txe : s.txe = Txe.reset
  dlt : s.dlt = Dlt.reset
  rxe : s.rxe = Rxe.reset

theorem startSound_iff (s : State) : StartSound s ↔ (s.cfg.step ≠ .done → AtReset s) := by
  constructor <;> intro h hs
  · obtain ⟨hlif, hsync, hptu, hrcm, hcru, htxe, hdlt, hrxe⟩ := h hs
    exact ⟨hlif, hsync, hptu, hrcm, hcru, htxe, hdlt, hrxe⟩
  · obtain ⟨hlif, hsync, hptu, hrcm, hcru, htxe, hdlt, hrxe⟩ := h hs
    exact ⟨hlif, hsync, hptu, hrcm, hcru, htxe, hdlt, hrxe⟩

theorem atReset_resetTo (f : Fru) (st : StartStep) (c : Bool) (s : State) : AtReset (resetTo f st c s) :=
  ⟨rfl, rfl, rfl, rfl, rfl, rfl, rfl, rfl⟩

namespace AtReset

variable {s : State} (h : AtReset s)
include h

theorem withCfg (c : Cfg) : AtReset (s.withCfg c) := ⟨h.lif, h.sync, h.ptu, h.rcm, h.cru, h.txe, h.dlt, h.rxe⟩

theorem withHp (v : Hp) : AtReset (s.withHp v) := ⟨h.lif, h.sync, h.ptu, h.rcm, h.cru, h.txe, h.dlt, h.rxe⟩

theorem withPending (q : List Instr) : AtReset (s.withPending q) :=
  ⟨h.lif, h.sync, h.ptu, h.rcm, h.cru, h.txe, h.dlt, h.rxe⟩

theorem state : s.sync.state = .start := by rw [h.sync]; rfl

theorem offLine : s.sync.state.onLine = false := by rw [h.state]; rfl

theorem untimed : s.slotTiming = false := by simp [State.slotTiming, h.state, SyncState.timed]

theorem notWithdrawn (g : Bool) : s.atWithdrawal g = none := by simp [State.atWithdrawal, h.state]

theorem notDriving : s.lif.tx = none := by rw [h.lif]; rfl

theorem notHearing (had : Bool) : s.awaits had = false := by simp [State.awaits, h.offLine]

theorem endReception_eq : endReception s = s := by
  unfold endReception; rw [h.lif]; exact congrArg s.withLif h.lif.symm


/-! ### What comes from the line or the cycle (R13, R14): no receiver runs, no slot is timed, nothing is on record -/

theorem takeMarkerBytes_eq (o : Int) (g : Bool) (b : List Byte) : takeMarkerBytes o g b s = s := by
  unfold takeMarkerBytes
  split
  · rfl
  · simp [h.notWithdrawn g, handleMarker, h.offLine]

theorem takeRollBytes_eq (k : Addr) (g : Bool) (b : List Byte) : takeRollBytes k g b s = s := by
  simp [takeRollBytes, h.notWithdrawn g, heardAsPeer, h.untimed]

theorem takeDataBytes_eq (k : Phase) (g : Bool) (b : List Byte) : takeDataBytes k g b s = s := by
  simp [takeDataBytes, h.notWithdrawn g, handedToRxe, h.untimed]

/-- R5, R13: a reception is not heard where its bytes, taken whole, would change nothing. -/
theorem hear_eq {part : Part} {b : List Byte} {running : Bool} {take : List Byte → State → State}
    (hrun : running = false) (htake : ∀ bytes, take bytes s = s) : hear part b running take s = s :=
  hear_leads (P := (· = s)) rfl (fun hr => absurd (hrun.symm.trans hr) (by decide)) htake fun bytes => by
    rw [h.endReception_eq]; exact htake bytes

/-- R13, R14, R96: in START no reception, read-back, cycle event or timer of the line changes anything. -/
theorem exec_fromTheLine {i : Instr} (hs : startsOver i = false) (hp : portOnly i = false)
    (hend : ∀ n, i ≠ .transactionEnd n) (hjoin : ∀ l, i ≠ .join l) (hwithdraw : ∀ l, i ≠ .withdraw l) :
    exec i s = .next s := by
  have htimed := h.untimed
  cases i with
  | markerReceived b o p g => exact congrArg _ (h.hear_eq h.offLine (h.takeMarkerBytes_eq o g))
  | rollWordReceived k b p g => exact congrArg _ (h.hear_eq (h.notHearing _) (h.takeRollBytes_eq k g))
  | dataFrameReceived k b p g => exact congrArg _ (h.hear_eq (h.notHearing _) (h.takeDataBytes_eq k g))
  | markerSlotEnd g => simp [exec, execMarkerSlotEnd, h.notWithdrawn g, h.endReception_eq, htimed]
  | rollSlotDamaged k g =>
    simp [exec, execRollSlotDamaged, h.notWithdrawn g, h.endReception_eq, heardAsPeer, htimed]
  | dataPhaseDamaged k g =>
    simp [exec, execDataPhaseDamaged, h.notWithdrawn g, h.endReception_eq, handedToRxe, htimed]
  | ownMarkerReadBack r => simp [exec, execOwnMarkerReadBack, h.notDriving]
  | ownRollReadBack r => simp [exec, execOwnRollReadBack, h.notDriving]
  | ownDataReadBack r => simp [exec, execOwnDataReadBack, h.notDriving]
  | cycleStart => simp [exec, execCycleStart, htimed]
  | ownRollSlot => simp [exec, execOwnRollSlot, htimed]
  | leaveSlotEnd => simp [exec, execLeaveSlotEnd, h.sync, Sync.reset]
  | rollCallClose => simp [exec, execRollCallClose, htimed]
  | dataPhase k => simp [exec, execDataPhase, htimed]
  | listenTimerExpiry => simp [exec, execListenTimerExpiry, h.sync, Sync.reset, Timer.runs]
  | takeoverTimerExpiry => simp [exec, execTakeoverTimerExpiry, h.sync, Sync.reset, Timer.runs]
  | lineFaultTimerExpiry g => simp [exec, execLineFaultTimerExpiry, h.notWithdrawn g, h.lif, Lif.reset, Timer.runs]
  | transactionEnd n => exact absurd rfl (hend n)
  | join l => exact absurd rfl (hjoin l)
  | withdraw l => exact absurd rfl (hwithdraw l)
  | powerOnReset | pinReset | start _ _ | readAttemptEnd _ | sclHoldTimeout _ | retryWaitExpiry _ => cases hs
  | _ => cases hp

/-! ### What comes from the host port -/

/-- R172 check 2: in START a request other than STATUS does nothing but take its reply. -/
theorem kept_by_request {code : Byte} (hc : code ≠ 0x01#8) (ok : Bool) (args : List Byte) (rule : State → Result) :
    AtReset (takeRequest code ok args rule s) := by
  rcases takeRequest_cases code ok args rule s with he | ⟨st, he⟩ | ⟨hpass, -⟩
  · rw [he]; exact h
  · rw [he]; exact h.withHp _
  · exact absurd hpass (by simp [h.state, hc])

theorem kept_by_status {t : State} (l : List Byte) (ht : exec (.status l) s = .next t) : AtReset t := by
  obtain rfl := next_inj ht
  rcases takeRequest_cases 0x01#8 l.isEmpty l (fun s => { state := s, status := .ok, data := statusData s }) s with
    he | ⟨st, he⟩ | ⟨-, he⟩ <;> rw [he]
  · exact h
  · exact h.withHp _
  · exact h.withHp _

/-- R174: the commit of a pop finds both lists empty. -/
theorem kept_by_popCommit {t : State} (ht : exec .popRxCommit s = .next t ∨ exec .popDoneCommit s = .next t) :
    AtReset t := by
  have hqueue : AtReset (s.withRxe { s.rxe with queue := s.rxe.queue.tail }) :=
    ⟨h.lif, h.sync, h.ptu, h.rcm, h.cru, h.txe, h.dlt, by rw [h.rxe]; rfl⟩
  have hfree : freeHead s = s := by simp [freeHead, h.dlt, Dlt.reset]
  rcases ht with ht | ht <;> obtain rfl := next_inj ht <;> (repeat' split)
  · exact h
  · exact hqueue.withHp _
  · exact h.withHp _
  · exact h
  · rw [hfree]; exact h.withHp _
  · exact h.withHp _

theorem kept_by_transactionEnd {t : State} (n : Nat) (ht : exec (.transactionEnd n) s = .next t) : AtReset t := by
  obtain rfl := next_inj ht
  (repeat' split)
  · exact h
  · exact atReset_resetTo _ _ _ s
  · rename_i hfault
    exact absurd h.state hfault.2.2.1
  · exact h.withHp _

/-- R166, R169, R172: in START no command but those of START itself reaches one of the eight blocks. -/
theorem kept {i : Instr} {t : State} (hs : startsOver i = false) (ht : exec i s = .next t) : AtReset t := by
  cases i with
  | powerOnReset | pinReset | start _ _ | readAttemptEnd _ | sclHoldTimeout _ | retryWaitExpiry _ => cases hs
  | transactionBegin l =>
    obtain rfl := next_inj ht
    (repeat' split)
    · exact h
    · exact h.withHp _
    · exact h.withHp _
  | transactionEnd n => exact h.kept_by_transactionEnd n ht
  | badRequest code l =>
    obtain rfl := next_inj ht
    split
    · exact h.withHp _
    · exact h
  | popRxCommit => exact h.kept_by_popCommit (.inl ht)
  | popDoneCommit => exact h.kept_by_popCommit (.inr ht)
  | status l => exact h.kept_by_status l ht
  | push _ | popRx _ | popDone _ | claim _ | claimAt _ | release _ | releaseAll _ | readTable _ | readFaults _
  | clearFaults _ | readEvents _ | ackEvents _ | setEnables _ | stagePattern _ | applyPattern _ | join _ | withdraw _
  | softReset _ | readConfig _ => obtain rfl := next_inj ht; exact h.kept_by_request (by decide) _ _ _
  | _ => rw [h.exec_fromTheLine rfl rfl (by simp) (by simp) (by simp)] at ht; exact next_inj ht ▸ h

end AtReset

/-! ## What the commands of START leave (R162 to R167) -/

/-- R162 to R167: a command of START writes CFG alone and keeps the configuration, unless it ends START, and then with a
configuration in its ranges. -/
def StartLeaves (s t : State) : Prop :=
  (∃ c, t = s.withCfg c ∧ c.config = s.cfg.config ∧ (s.cfg.step = .done → c.step = .done)) ∨
    (t.cfg.step = .done ∧ ConfigurationSound t.cfg.config)

theorem StartLeaves.refl (s : State) : StartLeaves s s := .inl ⟨s.cfg, rfl, rfl, id⟩

/-- What a command leaves of the state behind its own work in CFG, it leaves of the state before it. -/
theorem StartLeaves.before {s t : State} {c : Cfg} (h : StartLeaves (s.withCfg c) t) (hc : c.config = s.cfg.config)
    (hs : s.cfg.step ≠ .done) : StartLeaves s t := by
  rcases h with ⟨d, rfl, hd, -⟩ | hdone
  · exact .inl ⟨d, rfl, hd.trans hc, fun hdone => absurd hdone hs⟩
  · exact .inr hdone

/-- R164, R165: CFG when START has ended. -/
theorem finishStart_cfg (c : Configuration) (src : ConfigSource) (why : Option FailReason) (s : State) :
    (finishStart c src why s).cfg = { s.cfg with config := c, source := some src, failure := why, step := .done } := by
  have hleave : ∀ u, (leaveStart u).cfg = { u.cfg with step := .done } := by
    intro u
    unfold leaveStart
    dsimp only
    split <;> simp
  unfold finishStart
  dsimp only
  rw [hleave]
  split <;> simp

theorem startLeaves_finishStart {c : Configuration} (hc : ConfigurationSound c) (src : ConfigSource)
    (why : Option FailReason) (s u : State) : StartLeaves u (finishStart c src why s) :=
  .inr (by rw [finishStart_cfg]; exact ⟨rfl, hc⟩)

theorem startLeaves_attemptFailed {s : State} (hs : s.cfg.step ≠ .done) (why : FailReason) :
    StartLeaves s (attemptFailed why s) := by
  unfold attemptFailed
  split
  · exact .inl ⟨_, rfl, rfl, fun hdone => absurd hdone hs⟩
  · exact startLeaves_finishStart configurationSound_defaults _ _ _ _

/-- R162: CFG when the bus check of an attempt is over, behind `n` pulses of CFG_SCL and then these steps. -/
def Cfg.busChecked (c : Cfg) (n : Nat) (more : List BusStep) : Cfg :=
  { c with attempts := c.attempts + 1, step := .reading, sclPulses := n, bus := List.replicate n .pulse ++ more }

/-- R162: a CFG_SDA that is high within 9 pulses lets the read begin. -/
theorem beginAttempt_of_le {n : Nat} (hn : n ≤ 9) (s : State) :
    beginAttempt n s = s.withCfg (s.cfg.busChecked n []) := by
  simp [beginAttempt, Config.busCheckPulses, hn, Cfg.busChecked]

/-- R162: a CFG_SDA still low after the ninth pulse fails the attempt, both pins released. -/
theorem beginAttempt_of_lt {n : Nat} (hn : 9 < n) (s : State) :
    beginAttempt n s = attemptFailed .busFault (s.withCfg (s.cfg.busChecked 9 [.release])) := by
  simp [beginAttempt, Config.busCheckPulses, show ¬ n ≤ 9 by omega, show min n 9 = 9 by omega, Cfg.busChecked, onBus,
    State.withCfg]

theorem startLeaves_beginAttempt {s : State} (hs : s.cfg.step ≠ .done) (n : Nat) :
    StartLeaves s (beginAttempt n s) := by
  rcases Nat.lt_or_ge 9 n with hn | hn
  · rw [beginAttempt_of_lt hn]
    exact (startLeaves_attemptFailed (by simp [Cfg.busChecked]) _).before rfl hs
  · rw [beginAttempt_of_le hn]
    exact .inl ⟨_, rfl, rfl, fun hdone => absurd hdone hs⟩

theorem startLeaves_start {s t : State} (p : Straps) (n : Nat) (ht : exec (.start p n) s = .next t) :
    StartLeaves s t := by
  obtain rfl := next_inj ht
  split
  · rename_i hs
    have hstep : s.cfg.step ≠ .done := by rcases hs with hs | hs <;> simp [hs]
    dsimp only
    split
    · exact (startLeaves_beginAttempt (by exact hstep) n).before rfl hstep
    · exact startLeaves_finishStart configurationSound_defaults _ _ _ _
  · exact .refl s

theorem startLeaves_readAttemptEnd {s t : State} (r : ReadAttempt) (ht : exec (.readAttemptEnd r) s = .next t) :
    StartLeaves s t := by
  obtain rfl := next_inj ht
  split
  · rename_i hs
    have hstep : s.cfg.step ≠ .done := by simp [hs]
    dsimp only
    (repeat' split)
    · rename_i hrecord
      exact startLeaves_finishStart (configurationSound_of_record hrecord) _ _ _ _
    · exact startLeaves_finishStart configurationSound_defaults _ _ _ _
    · exact (startLeaves_attemptFailed (by exact hstep) _).before rfl hstep
  · exact .refl s

/-- R162 to R168: what the resets and the commands of START leave. -/
theorem exec_startsOver {i : Instr} {s t : State} (hi : startsOver i = true) (ht : exec i s = .next t) :
    StartLeaves s t ∨ ∃ f st c, t = resetTo f st c s := by
  cases i with
  | powerOnReset | pinReset => exact .inr ⟨_, _, _, next_inj ht⟩
  | start p n => exact .inl (startLeaves_start p n ht)
  | readAttemptEnd r => exact .inl (startLeaves_readAttemptEnd r ht)
  | sclHoldTimeout n =>
    obtain rfl := next_inj ht
    split
    · rename_i hs
      have hstep : s.cfg.step ≠ .done := by simp [hs]
      exact .inl ((startLeaves_attemptFailed (by exact hstep) _).before rfl hstep)
    · exact .inl (.refl s)
  | retryWaitExpiry n =>
    obtain rfl := next_inj ht
    split
    · rename_i hs
      exact .inl (startLeaves_beginAttempt (by simp [hs]) n)
    · exact .inl (.refl s)
  | _ => cases hi

/-- R160, R175: every other command leaves CFG alone, but for the rising edge that carries out a soft reset. -/
theorem exec_cfg {i : Instr} {s t : State} (hi : startsOver i = false) (ht : exec i s = .next t) :
    t.cfg = s.cfg ∨ t = softReset s := by
  by_cases hsoft : ∀ n, i ≠ .transactionEnd n ∨ s.hp.softReset = false
  · exact .inl (recordsThatOutlastCommands.2.1 i s t ht (by rintro rfl; cases hi) (by rintro rfl; cases hi)
      (by rintro _ _ rfl; cases hi) (by rintro _ rfl; cases hi) (by rintro _ rfl; cases hi)
      (by rintro _ rfl; cases hi) hsoft)
  · push Not at hsoft
    obtain ⟨n, rfl, hreset⟩ := hsoft
    obtain rfl := next_inj ht
    split
    · exact .inl rfl
    · exact .inr (if_pos (by simpa using hreset))

/-! ## The configuration and the blocks until START ends -/

theorem exec_configurationSound (i : Instr) (s t : State) (h : ConfigurationSound s.cfg.config)
    (ht : exec i s = .next t) : ConfigurationSound t.cfg.config := by
  cases hi : startsOver i with
  | true =>
    rcases exec_startsOver hi ht with (⟨c, rfl, hc, -⟩ | ⟨-, hdone⟩) | ⟨f, st, c, rfl⟩
    · exact hc.symm ▸ h
    · exact hdone
    · exact configurationSound_defaults
  | false =>
    rcases exec_cfg hi ht with hc | rfl
    · exact hc.symm ▸ h
    · exact configurationSound_defaults

theorem exec_startSound (i : Instr) (s t : State) (h : StartSound s) (ht : exec i s = .next t) : StartSound t := by
  rw [startSound_iff] at h ⊢
  intro hstep
  cases hi : startsOver i with
  | true =>
    rcases exec_startsOver hi ht with (⟨c, rfl, -, hkept⟩ | ⟨hdone, -⟩) | ⟨f, st, c, rfl⟩
    · exact (h fun hdone => hstep (hkept hdone)).withCfg c
    · exact absurd hdone hstep
    · exact atReset_resetTo f st c s
  | false =>
    rcases exec_cfg hi ht with hc | rfl
    · exact (h (by rwa [hc] at hstep)).kept hi ht
    · exact atReset_resetTo _ _ _ s

/-- Settles O58: the configuration by what each command does to CFG, the blocks by what a command can reach in START. -/
theorem startAndConfigurationStaySound : Obligations.StartAndConfigurationStaySound :=
  ⟨step_keeps (P := fun s => ConfigurationSound s.cfg.config) (fun _ _ h => h) (fun _ _ _ h => h)
      exec_configurationSound,
    step_keeps (P := StartSound) (fun _ _ h => h) (fun _ _ _ h => h) exec_startSound⟩

end Sys2Proof.Machine

namespace Sys2Proof.Machine

/-! ## The states that START and a failed attempt lead to (R160 to R167) -/

/-- R164 to R167: START ends without a failure in OFFLINE, or with auto-join in LISTENING. -/
theorem finishStart_none (c : Configuration) (src : ConfigSource) (s : State) :
    finishStart c src none s =
      if c.autoJoin then listeningFrom (startedWith c src none s) else startedWith c src none s := by
  rw [← joinLine_eq]
  rfl

/-- R152: an ADVISORY kind is the highest only where there was none. -/
theorem max_advisory (h : Severity) : h.max .advisory = if h = .none then .advisory else h := by cases h <;> rfl

/-- R164, R166: the record behind CONFIG_DEFAULTED, which no mask of the defaults keeps from being the first. -/
theorem record_configDefaulted (f : Fru) : ({ f with mask := 0#15 } : Fru).record .configDefaulted none .start .none =
    { f with
      mask := 0#15
      seen := f.seen.set 0 true
      counts := f.counts.set 0 (if f.counts[0] < 255 then f.counts[0] + 1 else f.counts[0])
      first := match f.first with
        | some r => some r
        | none => some { kind := .configDefaulted, cycle := none, state := .start, ctx := .none }
      highest := if f.highest = .none then .advisory else f.highest } := by
  have hmask : masked 0#15 .configDefaulted = false := by decide
  have hseverity : FaultKind.severity .configDefaulted = .advisory := rfl
  simp only [Fru.record, hmask, hseverity, max_advisory, Bool.false_eq_true, if_false]
  cases f.first <;> rfl

/-- R164 to R167: START ends with a failure in OFFLINE, with the defaults and CONFIG_DEFAULTED. -/
theorem finishStart_some {s : State} (hs : s.sync = Sync.reset) (why : FailReason) :
    finishStart Configuration.defaults .defaultsByFailure (some why) s =
      withConfigDefaulted (startedWith Configuration.defaults .defaultsByFailure (some why) s) := by
  have hfault : ∀ u : State, u.sync = Sync.reset → u.fru.mask = 0#15 → u.cfg.config.autoJoin = false →
      leaveStart (recordFault .configDefaulted .none u) = withConfigDefaulted
        { u with cfg := { u.cfg with step := .done }, sync := { u.sync with state := .offline } } := by
    intro u hsync hmask hjoin
    have hleave : ∀ w, (leaveStart w).fru = w.fru := fun w => by simp
    have hfru : u.fru = { u.fru with mask := 0#15 } := by rw [← hmask]
    apply state_ext
    case fru =>
      rw [hleave, recordFault_fru, hsync, hfru]
      exact record_configDefaulted u.fru
    all_goals simp [leaveStart, hjoin, withConfigDefaulted, recordFault_hp, hmask, masked, Event.bit, Event.index]
  exact hfault _ hs rfl rfl

/-- R162: an attempt failed in START. -/
theorem attemptFailed_eq {s : State} (hs : s.sync = Sync.reset) (why : FailReason) :
    attemptFailed why s = afterFailedAttempt why s := by
  unfold attemptFailed afterFailedAttempt
  rw [finishStart_some hs]
  rfl

/-- R169: until START ends, SYNC stands at its reset values. -/
theorem StartSound.sync {s : State} (h : StartSound s) (hs : s.cfg.step ≠ .done) : s.sync = Sync.reset :=
  ((startSound_iff s).mp h hs).sync

/-- R162: a bus check that fails an attempt, in START. -/
theorem beginAttempt_fails {n : Nat} {s : State} (hs : s.sync = Sync.reset) (hn : 9 < n) :
    beginAttempt n s = afterFailedAttempt .busFault (s.withCfg (s.cfg.busChecked 9 [.release])) :=
  (beginAttempt_of_lt hn s).trans (attemptFailed_eq (by exact hs) _)

end Sys2Proof.Machine

namespace Sys2Proof.Machine

/-! ## START and the wait (R161, R162) -/

theorem start_begun {p : Straps} {n : Nat} {s : State} (hs : s.cfg.step = .held ∨ s.cfg.step = .sampling) :
    exec (.start p n) s = .next
      (if p.cfgSrc then beginAttempt n (s.withCfg { s.cfg with straps := p })
      else finishStart Configuration.defaults .defaultsByStrap none (s.withCfg { s.cfg with straps := p })) :=
  congrArg _ (if_pos hs)

theorem retryWaitExpiry_waiting {n : Nat} {s : State} (hs : s.cfg.step = .waiting) :
    exec (.retryWaitExpiry n) s = .next (beginAttempt n s) := congrArg _ (if_pos hs)

/-- Settles O4: START and the end of the wait come to the defaults or to the bus check of an attempt. -/
theorem startTakesTheDefaultsOrBeginsToRead : Obligations.StartTakesTheDefaultsOrBeginsToRead := by
  refine ⟨⟨fun p n s hs hsrc => ?_, fun p n s hheld hsampling => ?_⟩,
    fun p n s hst hs hsrc => ⟨fun hn => ?_, fun hn => ?_⟩, fun n s hst hs => ⟨fun hn => ?_, fun hn => ?_⟩,
    fun n s hs => ?_⟩
  · rw [start_begun hs, if_neg (by simp [hsrc]), finishStart_none]
    rfl
  · exact congrArg _ (if_neg (not_or.mpr ⟨hheld, hsampling⟩))
  · rw [start_begun hs, hsrc, if_pos rfl, beginAttempt_of_le hn]
    simp [Cfg.busChecked, State.withCfg]
  · have hsync := hst.sync (by rcases hs with hs | hs <;> simp [hs])
    rw [start_begun hs, hsrc, if_pos rfl, beginAttempt_fails (by exact hsync) hn]
    rfl
  · rw [retryWaitExpiry_waiting hs, beginAttempt_of_le hn]
    simp [Cfg.busChecked, State.withCfg]
  · rw [retryWaitExpiry_waiting hs, beginAttempt_fails (hst.sync (by simp [hs])) hn]
    rfl
  · exact congrArg _ (if_neg hs)

end Sys2Proof.Machine

namespace Sys2Proof.Machine

/-! ## The read transaction (R162) -/

/-- R162: the clocks of a stretch of the transaction, one by one. -/
theorem clockCount_bit (v : Bool) (l : List BusStep) : clockCount (.bit v :: l) = clockCount l + 1 := by
  cases v <;> simp [clockCount] <;> omega

theorem clockCount_of_no_bit {x : BusStep} (hx : ∀ v, x ≠ .bit v) (l : List BusStep) :
    clockCount (x :: l) = clockCount l := by
  simp [clockCount, hx]

/-- R162: what CFG has done up to a hold of CFG_SCL is the transaction up to a clock, or all of it. -/
theorem upToClock_splits (n : Nat) (l : List BusStep) :
    ∃ rest, upToClock n l ++ rest = l ∧ clockCount (upToClock n l) = min n (clockCount l) ∧
      (rest = [] ∨ ∃ v, rest.head? = some (.bit v)) := by
  induction l generalizing n with
  | nil => exact ⟨[], by simp [upToClock], by simp [upToClock, clockCount], .inl rfl⟩
  | cons x l ih =>
    by_cases hx : ∃ v, x = .bit v
    · obtain ⟨v, rfl⟩ := hx
      cases n with
      | zero => exact ⟨.bit v :: l, rfl, by simp [upToClock, clockCount], .inr ⟨v, rfl⟩⟩
      | succ n =>
        obtain ⟨rest, happ, hcount, hrest⟩ := ih n
        refine ⟨rest, ?_, ?_, hrest⟩
        · rw [upToClock, List.cons_append, happ]
        · rw [upToClock, clockCount_bit, clockCount_bit, hcount]; omega
    · have hno : ∀ v, x ≠ .bit v := fun v hv => hx ⟨v, hv⟩
      have hstep : upToClock n (x :: l) = x :: upToClock n l := by
        cases x with
        | bit v => exact absurd rfl (hno v)
        | _ => rfl
      obtain ⟨rest, happ, hcount, hrest⟩ := ih n
      refine ⟨rest, ?_, ?_, hrest⟩
      · rw [hstep, List.cons_append, happ]
      · rw [hstep, clockCount_of_no_bit hno, clockCount_of_no_bit hno, hcount]

theorem clockCount_append (l m : List BusStep) : clockCount (l ++ m) = clockCount l + clockCount m := by
  simp only [clockCount, List.count_append]; omega

theorem clockCount_clocks (l : List Bool) : clockCount (clocks l) = l.length := by
  induction l with
  | nil => rfl
  | cons v l ih => rw [clocks, List.map_cons, clockCount_bit, List.length_cons]; exact congrArg _ ih

theorem clocks_append (l m : List Bool) : clocks (l ++ m) = clocks l ++ clocks m := List.map_append

/-- R162: the bytes that CFG sends, clock by clock. -/
theorem writeByte_device : writeByte (deviceByte false) =
    clocks [true, false, true, false, false, false, false, false, true] ∧
    writeByte (deviceByte true) = clocks [true, false, true, false, false, false, false, true, true] ∧
    writeByte 0x00#8 = clocks (List.replicate 8 false ++ [true]) := by decide

/-- R162 step 3: the 24 bytes read, of which the last is not acknowledged. -/
theorem readRecord_eq : readRecord =
    clocks ((List.replicate 23 (List.replicate 8 true ++ [false])).flatten ++ List.replicate 9 true) := by
  have hbyte : ∀ ack, readByte ack = clocks (List.replicate 8 true ++ [!ack]) := by decide
  have hacked : ∀ n ≤ 23, (List.range n).flatMap (fun i => readByte (decide (i < 23))) =
      clocks (List.replicate n (List.replicate 8 true ++ [false])).flatten := by
    intro n hn
    induction n with
    | zero => rfl
    | succ n ih =>
      rw [List.range_succ, List.flatMap_append, ih (by omega), List.replicate_succ' (n := n), List.flatten_append,
        clocks_append]
      simp [hbyte, show n < 23 by omega]
  rw [readRecord, List.range_succ, List.flatMap_append, hacked 23 (by omega), clocks_append]
  rfl

theorem readTransaction_no_write (a r : Bool) : readTransaction false a r =
    [.startCondition] ++ clocks [true, false, true, false, false, false, false, false, true] ++ [.stopCondition] := by
  rw [readTransaction, writeByte_device.1]; rfl

theorem readTransaction_no_address (r : Bool) : readTransaction true false r =
    [.startCondition] ++ clocks [true, false, true, false, false, false, false, false, true] ++
      clocks (List.replicate 8 false ++ [true]) ++ [.stopCondition] := by
  obtain ⟨hwrite, -, haddress⟩ := writeByte_device
  simp only [readTransaction, hwrite, haddress, if_true, Bool.false_eq_true, if_false, List.append_assoc,
    List.append_nil]

theorem readTransaction_addressed (r : Bool) : readTransaction true true r =
    [.startCondition] ++ clocks [true, false, true, false, false, false, false, false, true] ++
      clocks (List.replicate 8 false ++ [true]) ++
      [.repeatedStart] ++ clocks [true, false, true, false, false, false, false, true, true] ++
      (if r then clocks ((List.replicate 23 (List.replicate 8 true ++ [false])).flatten ++ List.replicate 9 true)
      else []) ++ [.stopCondition] := by
  obtain ⟨hwrite, hread, haddress⟩ := writeByte_device
  simp only [readTransaction, hwrite, hread, haddress, readRecord_eq, if_true, List.append_assoc]

/-- R162: 9 clocks for each of the 3 bytes written and the 24 read. -/
theorem clockCount_readTransaction : clockCount (readTransaction true true true) = 243 := by
  have hcondition : ∀ x ∈ [BusStep.startCondition, .repeatedStart, .stopCondition], clockCount [x] = 0 := by decide
  rw [readTransaction_addressed, if_pos rfl]
  simp only [clockCount_append, clockCount_clocks, hcondition, List.mem_cons, true_or, or_true, List.length_append,
    List.length_flatten, List.map_replicate, List.sum_replicate, List.length_replicate, List.length_cons,
    List.length_nil, smul_eq_mul, Nat.reduceAdd, Nat.reduceMul]

end Sys2Proof.Machine

namespace Sys2Proof.Machine

/-! ## The end of a read attempt (R162 to R164) -/

theorem readAttemptEnd_reading {r : ReadAttempt} {s : State} (hs : s.cfg.step = .reading) :
    exec (.readAttemptEnd r) s = .next
      (if memoryAnswered r then
        match validateRecord r.data with
        | .ok c => finishStart c .record none (onBus (readTransaction r.ackWrite r.ackAddress r.ackRead) s)
        | .error why => finishStart Configuration.defaults .defaultsByFailure (some why)
            (onBus (readTransaction r.ackWrite r.ackAddress r.ackRead) s)
      else attemptFailed .noResponse (onBus (readTransaction r.ackWrite r.ackAddress r.ackRead) s)) :=
  congrArg _ (if_pos hs)

theorem memoryAnswered_iff (r : ReadAttempt) :
    memoryAnswered r = true ↔ r.ackWrite = true ∧ r.ackAddress = true ∧ r.ackRead = true := by
  simp [memoryAnswered, and_assoc]

theorem sclHoldTimeout_reading {n : Nat} {s : State} (hs : s.cfg.step = .reading) :
    exec (.sclHoldTimeout n) s = .next
      (attemptFailed .busFault (onBus (upToClock n (readTransaction true true true) ++ [.release]) s)) :=
  congrArg _ (if_pos hs)

/-- Settles O5: the end of an attempt by the memory's acknowledges and its record, the hold by the clocks up to it. -/
theorem readAttemptEndsInAConfigurationOrAFailure : Obligations.ReadAttemptEndsInAConfigurationOrAFailure := by
  have hsync : ∀ s l, StartSound s → s.cfg.step = .reading → (onBus l s).sync = Sync.reset :=
    fun s l hst hs => hst.sync (by simp [hs])
  refine ⟨fun r s u hst hs hu => ?_, fun n s hst hs => ?_,
    fun n r s hs => ⟨congrArg _ (if_neg hs), congrArg _ (if_neg hs)⟩,
    readTransaction_no_write, readTransaction_no_address, readTransaction_addressed⟩
  · replace hu : u = onBus (readTransaction r.ackWrite r.ackAddress r.ackRead) s := hu
    rw [readAttemptEnd_reading hs, ← memoryAnswered_iff, ← hu]
    have husync : u.sync = Sync.reset := hu ▸ hsync s _ hst hs
    refine ⟨fun hack => ⟨fun c hc => ?_, fun why hwhy => ?_⟩, fun hack => ?_⟩
    · rw [if_pos hack, hc]
      exact congrArg _ (finishStart_none c .record u)
    · rw [if_pos hack, hwhy]
      exact congrArg _ (finishStart_some husync why)
    · rw [if_neg hack, attemptFailed_eq husync]
  · obtain ⟨rest, happ, hcount, hrest⟩ := upToClock_splits n (readTransaction true true true)
    refine ⟨_, rest, happ, by rw [hcount, clockCount_readTransaction], hrest, ?_⟩
    rw [sclHoldTimeout_reading hs, attemptFailed_eq (hsync s _ hst hs), onBus, ← List.append_assoc]
    rfl

end Sys2Proof.Machine

namespace Sys2Proof.Machine

/-! ## What a reset leaves (R168) -/

theorem resetValues_resetTo (f : Fru) (st : StartStep) (c : Bool) (s : State) : ResetValues (resetTo f st c s) := by
  constructor <;> simp [resetTo, State.reset, Lif.reset, Sync.reset, Ptu.reset, Rcm.reset, Cru.reset, Txe.reset,
    Dlt.reset, Rxe.reset, Cfg.reset, Hp.reset, Config.poolSize]

theorem faultsCleared_cleared : faultsCleared Fru.cleared := by simp [faultsCleared, Fru.cleared]

/-- R175: the rising edge of CS_N carries out an accepted soft reset. -/
theorem transactionEnd_softReset {s : State} (hcs : s.hp.csLow = true) (hr : s.hp.softReset = true) (n : Nat) :
    exec (.transactionEnd n) s = .next (softReset s) := by
  simp [exec, execTransactionEnd, hcs, hr]

/-- R175: SOFT_RESET answers OK and waits for the rising edge of CS_N. -/
theorem softReset_accepted {s : State} (hr : s.hp.tx = .request) (hs : s.sync.state ≠ .start) :
    exec (.softReset []) s =
      .next (replied 0x13#8 [] .ok [] { s with hp := { s.hp with softReset := true } }) :=
  congrArg _ (takeRequest_by_rule 0x13#8 []
    (fun s => accept (s.withHp { s.hp with softReset := true })) s hr (.inl hs))

/-- Settles O3: every reset is `resetTo`, and SOFT_RESET sets but the flag that the rising edge of CS_N reads. -/
theorem resetsLeaveTheResetValues : Obligations.ResetsLeaveTheResetValues := by
  refine ⟨fun s => ⟨_, rfl, resetValues_resetTo _ _ _ s, faultsCleared_cleared, rfl, rfl, rfl⟩,
    ⟨fun s => ⟨_, rfl, resetValues_resetTo _ _ _ s, rfl, rfl, rfl, rfl⟩, fun s n hcs hr => ?_⟩, fun s hr hs => ?_⟩
  · exact ⟨_, transactionEnd_softReset hcs hr n, resetValues_resetTo _ _ _ s, rfl, rfl, rfl, rfl⟩
  · exact ⟨_, softReset_accepted hr hs, rfl, _, transactionEnd_softReset rfl rfl 0, resetValues_resetTo _ _ _ _, rfl⟩

end Sys2Proof.Machine

namespace Sys2Proof.Machine

/-! ## The bytes of a configuration record (R194) -/

/-- R194: the bytes of a record in the layout of its fields. -/
theorem record_bytes (v : Vector Byte 24) : v.toList.map BitVec.toNat =
    [v[0].toNat, v[1].toNat, v[2].toNat, v[3].toNat, v[4].toNat, v[5].toNat, v[6].toNat, v[7].toNat, v[8].toNat,
      v[9].toNat, v[10].toNat, v[11].toNat] ++
    (List.finRange 8).map (fun i => (v[12 + i.val]'(by omega)).toNat) ++ [v[20].toNat, v[21].toNat, v[22].toNat] ++
    [v[23].toNat] := by
  apply List.ext_getElem
  · simp
  · intro i hi _
    have hlt : i < 24 := by simpa using hi
    interval_cases i <;> simp

/-- R194: the record's bytes, field by field, are those of the configuration; the check byte is not among them. -/
structure HoldsFields (v : Vector Byte 24) (c : Configuration) : Prop where
  header : v[0].toNat = 0xC7 ∧ v[1].toNat = 0x2E ∧ v[2].toNat = 0x01
  absenceLimit : v[3].toNat = c.absenceLimit
  retryTimeout : v[4].toNat = c.retryTimeout
  retryLimit : v[5].toNat = c.retryLimit
  quota : v[6].toNat = c.quota
  autoJoin : v[7].toNat = if c.autoJoin then 1 else 0
  enables : v[8].toNat = c.enables.toNat / 256 ∧ v[9].toNat = c.enables.toNat % 256
  mask : v[10].toNat = c.mask.toNat / 256 ∧ v[11].toNat = c.mask.toNat % 256
  pattern : ∀ i : Fin 8, (v[12 + i.val]'(by omega)).toNat =
    (c.pattern[2 * i.val]'(by omega)).number * 16 + (c.pattern[2 * i.val + 1]'(by omega)).number
  reserved : v[20].toNat = 0 ∧ v[21].toNat = 0 ∧ v[22].toNat = 0

theorem holdsFields_iff (v : Vector Byte 24) (c : Configuration) :
    HoldsFields v c ↔ v.toList.map BitVec.toNat = recordFront c ++ [v[23].toNat] := by
  rw [record_bytes, List.append_left_inj, recordFront]
  constructor
  · rintro ⟨⟨h0, h1, h2⟩, h3, h4, h5, h6, h7, ⟨h8, h9⟩, ⟨h10, h11⟩, hpattern, h20, h21, h22⟩
    simp only [h0, h1, h2, h3, h4, h5, h6, h7, h8, h9, h10, h11, hpattern, h20, h21, h22]
  · intro h
    obtain ⟨hfront, hreserved⟩ := List.append_inj h (by simp)
    obtain ⟨hhead, hpattern⟩ := List.append_inj hfront (by simp)
    simp only [List.cons.injEq, and_true] at hhead hreserved
    obtain ⟨h0, h1, h2, h3, h4, h5, h6, h7, h8, h9, h10, h11⟩ := hhead
    exact ⟨⟨h0, h1, h2⟩, h3, h4, h5, h6, h7, ⟨h8, h9⟩, ⟨h10, h11⟩,
      fun i => List.map_inj_left.mp hpattern i (List.mem_finRange i), hreserved⟩

@[simp] theorem recordFront_length (c : Configuration) : (recordFront c).length = 23 := by simp [recordFront]

theorem number_lt (c : Cls) : c.number < 4 := by cases c <;> decide

/-- R165, R194: each field of a configuration in its ranges fits its bytes. -/
theorem recordFront_lt {c : Configuration} (h : ConfigurationSound c) : ∀ n ∈ recordFront c, n < 256 := by
  have hlimit := h.absenceLimit.2
  have htimeout := h.retryTimeout.2
  have hretries := h.retryLimit
  have hquota := h.quota.2
  have hclass := number_lt
  have henables := c.enables.isLt
  have hmask := c.mask.isLt
  have hjoin : (if c.autoJoin then 1 else 0) < 256 := by split <;> omega
  simp only [recordFront, List.forall_mem_append, List.forall_mem_cons, List.forall_mem_map, List.not_mem_nil,
    false_imp_iff, implies_true, and_true]
  refine ⟨⟨?_, fun i _ => ?_⟩, by omega⟩
  · and_intros <;> omega
  · have := hclass (c.pattern[2 * i.val]'(by omega))
    have := hclass (c.pattern[2 * i.val + 1]'(by omega))
    omega

/-- R194: the bytes of the record that holds a configuration: its fields and the check byte. -/
theorem recordOf_bytes {c : Configuration} (h : ∀ n ∈ recordFront c, n < 256) :
    (recordOf c).toList.map BitVec.toNat = recordFront c ++ [(256 - (recordFront c).sum % 256) % 256] := by
  apply List.ext_getElem
  · simp
  · intro i hi _
    have hlt : i < 24 := by simpa using hi
    by_cases hfront : i < 23
    · have hb := h _ (List.getElem_mem (l := recordFront c) (n := i) (by simpa using hfront))
      simp [recordOf, hfront, byteOf_toNat, hb]
    · obtain rfl : i = 23 := by omega
      simp [recordOf, byteOf]

/-- The high half of byte `12 + i` is entry `2 i`, the low half entry `2 i + 1`. -/
theorem recordClass_even (v : Vector Byte 24) (i : Fin 8) :
    recordClass v ⟨2 * i.val, by omega⟩ = clsOf (byteOf ((v[12 + i.val]'(by omega)).toNat / 16)) := by
  simp [recordClass]

theorem recordClass_odd (v : Vector Byte 24) (i : Fin 8) :
    recordClass v ⟨2 * i.val + 1, by omega⟩ = clsOf (byteOf ((v[12 + i.val]'(by omega)).toNat % 16)) := by
  have hhalf : (2 * i.val + 1) / 2 = i.val := by omega
  simp [recordClass, hhalf]

theorem clsOf_byteOf_isSome {n : Nat} (hn : n < 256) : (clsOf (byteOf n)).isSome = true ↔ n ≤ 3 := by
  have hnone : clsOf (byteOf n) = none ↔ 4 ≤ n := by
    rw [clsOf_eq_none, BitVec.le_def, byteOf_toNat hn]
    rfl
  rw [← Option.ne_none_iff_isSome, ne_eq, hnone]
  omega

/-- Every entry of the pattern lies in one of the 8 bytes, in the high half or in the low half. -/
theorem forall_entry {P : Fin 16 → Prop} :
    (∀ i, P i) ↔ ∀ i : Fin 8, P ⟨2 * i.val, by omega⟩ ∧ P ⟨2 * i.val + 1, by omega⟩ := by
  refine ⟨fun h i => ⟨h _, h _⟩, fun h i => ?_⟩
  obtain ⟨heven, hodd⟩ := h ⟨i.val / 2, by omega⟩
  rcases Nat.mod_two_eq_zero_or_one i.val with hi | hi
  · convert heven using 1
    exact Fin.ext (by dsimp only; omega)
  · convert hodd using 1
    exact Fin.ext (by dsimp only; omega)

theorem recordInRange_iff (v : Vector Byte 24) : recordInRange v = true ↔ RecordInRange v := by
  have hpattern : (List.finRange 16).all (fun i => (recordClass v i).isSome) = true ↔
      ∀ i : Fin 8, (v[12 + i.val]'(by omega)).toNat / 16 ≤ 3 ∧ (v[12 + i.val]'(by omega)).toNat % 16 ≤ 3 := by
    rw [List.all_eq_true]
    simp only [List.mem_finRange, true_imp_iff]
    rw [forall_entry]
    refine forall_congr' fun i => ?_
    rw [recordClass_even, recordClass_odd, clsOf_byteOf_isSome (by omega), clsOf_byteOf_isSome (by omega)]
  simp only [recordInRange, Bool.and_eq_true, decide_eq_true_eq, beq_iff_eq, hpattern, and_assoc]
  constructor
  · rintro ⟨hlimit, hlimit', htimeout, htimeout', hretries, hquota, hquota', hjoin, henables, hmask, hentries, hreserved⟩
    exact ⟨⟨hlimit, hlimit'⟩, ⟨htimeout, htimeout'⟩, hretries, ⟨hquota, hquota'⟩, hjoin, henables, hmask, hentries,
      hreserved⟩
  · rintro ⟨⟨hlimit, hlimit'⟩, ⟨htimeout, htimeout'⟩, hretries, ⟨hquota, hquota'⟩, hjoin, henables, hmask, hentries,
      hreserved⟩
    exact ⟨hlimit, hlimit', htimeout, htimeout', hretries, hquota, hquota', hjoin, henables, hmask, hentries, hreserved⟩

end Sys2Proof.Machine

namespace Sys2Proof.Machine

/-! ## A record and its configuration (R163, R165) -/

/-- Two bytes as one field of the width that holds them. -/
theorem half_setWidth_toNat {w : Nat} {hi lo : Byte} (h : hi.toNat * 256 + lo.toNat < 2 ^ w) :
    ((half hi lo).setWidth w).toNat = hi.toNat * 256 + lo.toNat := by
  have hhalf : (half hi lo).toNat = hi.toNat * 256 + lo.toNat := by
    rw [half, BitVec.toNat_append, ← Nat.shiftLeft_add_eq_or_of_lt lo.isLt, Nat.shiftLeft_eq]
  rw [BitVec.toNat_setWidth, hhalf, Nat.mod_eq_of_lt h]

/-- A class that 4 bits name has these bits for its number. -/
theorem number_clsOf {n : Nat} (hn : n ≤ 3) : ((clsOf (byteOf n)).getD .c0).number = n := by
  interval_cases n <;> decide

@[simp] theorem clsOf_number (c : Cls) : clsOf (byteOf c.number) = some c := by cases c <;> decide

/-- A byte of 0 or 1 as a flag. -/
theorem toNat_eq_flag {b : Byte} (hb : b.toNat ≤ 1) : b.toNat = if b == 1#8 then 1 else 0 := by
  by_cases h : b = 1#8
  · simp [h]
  · have hne : b.toNat ≠ 1 := fun hb => h (BitVec.eq_of_toNat_eq hb)
    rw [if_neg (by simpa using h)]
    omega

/-- R163, R194: a record that passes the checks but the last holds the fields of the configuration it is read as. -/
theorem holdsFields_recordFields {v : Vector Byte 24} (hsignature : v[0] = 0xC7#8 ∧ v[1] = 0x2E#8)
    (hversion : v[2] = 0x01#8) (h : RecordInRange v) : HoldsFields v (recordFields v) := by
  have henables := h.enables
  have hmask := h.mask
  obtain ⟨h20, h21, h22⟩ := h.reserved
  have hlo := v[9].isLt
  have hlo' := v[11].isLt
  have he : (recordFields v).enables.toNat = v[8].toNat * 256 + v[9].toNat := half_setWidth_toNat (by omega)
  have hm : (recordFields v).mask.toNat = v[10].toNat * 256 + v[11].toNat := half_setWidth_toNat (by omega)
  refine ⟨by simp [hsignature, hversion], rfl, rfl, rfl, rfl, toNat_eq_flag h.autoJoin,
    ⟨by omega, by omega⟩, ⟨by omega, by omega⟩, fun i => ?_, by simp [h20, h21, h22]⟩
  obtain ⟨hhigh, hlow⟩ := h.pattern i
  have heven : (recordFields v).pattern[2 * i.val] = (recordClass v ⟨2 * i.val, by omega⟩).getD .c0 := by
    simp [recordFields]
  have hodd : (recordFields v).pattern[2 * i.val + 1] = (recordClass v ⟨2 * i.val + 1, by omega⟩).getD .c0 := by
    simp [recordFields]
  rw [heven, hodd, recordClass_even, recordClass_odd, number_clsOf hhigh, number_clsOf hlow]
  omega

/-- R165, R194: the fields of a record of a configuration in its ranges are in theirs. -/
theorem HoldsFields.inRange {v : Vector Byte 24} {c : Configuration} (h : HoldsFields v c) (hc : ConfigurationSound c) :
    RecordInRange v := by
  have hclass := number_lt
  have henables := c.enables.isLt
  have hmask := c.mask.isLt
  obtain ⟨h20, h21, h22⟩ := h.reserved
  refine ⟨h.absenceLimit ▸ hc.absenceLimit, h.retryTimeout ▸ hc.retryTimeout, h.retryLimit ▸ hc.retryLimit,
    h.quota ▸ hc.quota, ?_, by rw [h.enables.1]; omega, by rw [h.mask.1]; omega, fun i => ?_,
    BitVec.eq_of_toNat_eq h20, BitVec.eq_of_toNat_eq h21, BitVec.eq_of_toNat_eq h22⟩
  · rw [h.autoJoin]; split <;> omega
  · have hhigh := hclass (c.pattern[2 * i.val]'(by omega))
    have hlow := hclass (c.pattern[2 * i.val + 1]'(by omega))
    rw [h.pattern i]
    omega

/-- R194: the fields of a record give back the configuration that they hold. -/
theorem HoldsFields.recordFields_eq {v : Vector Byte 24} {c : Configuration} (h : HoldsFields v c) :
    recordFields v = c := by
  have henables : (half v[8] v[9]).setWidth 9 = c.enables := by
    obtain ⟨hhi, hlo⟩ := h.enables
    have hlt := c.enables.isLt
    apply BitVec.eq_of_toNat_eq
    rw [half_setWidth_toNat] <;> omega
  have hmask : (half v[10] v[11]).setWidth 15 = c.mask := by
    obtain ⟨hhi, hlo⟩ := h.mask
    have hlt := c.mask.isLt
    apply BitVec.eq_of_toNat_eq
    rw [half_setWidth_toNat] <;> omega
  have hjoin : (v[7] == 1#8) = c.autoJoin := by
    have hflag := h.autoJoin
    rw [Bool.eq_iff_iff, beq_iff_eq, ← BitVec.toNat_inj, hflag]
    cases c.autoJoin <;> decide
  have hentries : ∀ i : Fin 16, recordClass v i = some c.pattern[i] := by
    rw [forall_entry]
    intro i
    have hhalves : ∀ a b : Nat, b < 4 → (a * 16 + b) / 16 = a ∧ (a * 16 + b) % 16 = b := by omega
    obtain ⟨hhigh, hlow⟩ := hhalves (c.pattern[2 * i.val]'(by omega)).number _
      (number_lt (c.pattern[2 * i.val + 1]'(by omega)))
    rw [recordClass_even, recordClass_odd, h.pattern i, hhigh, hlow, clsOf_number, clsOf_number]
    exact ⟨rfl, rfl⟩
  have hpattern : (tab fun i => (recordClass v i).getD .c0 : Vector Cls 16) = c.pattern := by
    ext i hi
    simp [hentries]
  rw [recordFields, h.absenceLimit, h.retryTimeout, h.retryLimit, h.quota, hjoin, henables, hmask, hpattern]

/-- R194: the check byte brings the bytes of a record to 0 mod 256. -/
theorem sum_recordOf {c : Configuration} (hc : ConfigurationSound c) :
    ((recordOf c).toList.map BitVec.toNat).sum % 256 = 0 := by
  rw [recordOf_bytes (recordFront_lt hc), List.sum_append, List.sum_singleton]
  omega

theorem holdsFields_recordOf {c : Configuration} (hc : ConfigurationSound c) : HoldsFields (recordOf c) c := by
  have hcheck : (recordOf c)[23].toNat = (256 - (recordFront c).sum % 256) % 256 := by simp [recordOf, byteOf]
  rw [holdsFields_iff, recordOf_bytes (recordFront_lt hc), hcheck]

/-- R194: bytes that hold a configuration's fields and add up to 0 mod 256 are its record. -/
theorem HoldsFields.recordOf_eq {v : Vector Byte 24} {c : Configuration} (h : HoldsFields v c)
    (hc : ConfigurationSound c) (hsum : (v.toList.map BitVec.toNat).sum % 256 = 0) : recordOf c = v := by
  have hbytes := (holdsFields_iff v c).mp h
  have hcheck : (256 - (recordFront c).sum % 256) % 256 = v[23].toNat := by
    rw [hbytes, List.sum_append, List.sum_singleton] at hsum
    have := v[23].isLt
    omega
  have hsame := (recordOf_bytes (recordFront_lt hc)).trans (hcheck ▸ hbytes.symm)
  exact Vector.toList_inj.mp (List.map_injective_iff.mpr (fun a b hab => BitVec.eq_of_toNat_eq hab) hsame)

end Sys2Proof.Machine

namespace Sys2Proof.Machine

/-! ## The checks of a record, in order (R163) -/

section

variable {v : Vector Byte 24}

theorem validateRecord_signature (h : ¬(v[0] = 0xC7#8 ∧ v[1] = 0x2E#8)) : validateRecord v = .error .signature :=
  if_pos (not_and_or.mp h)

theorem validateRecord_version (h : v[0] = 0xC7#8 ∧ v[1] = 0x2E#8) (hv : v[2] ≠ 0x01#8) :
    validateRecord v = .error .version := by
  simp [validateRecord, h, hv]

theorem validateRecord_range (h : v[0] = 0xC7#8 ∧ v[1] = 0x2E#8) (hv : v[2] = 0x01#8) (hr : ¬RecordInRange v) :
    validateRecord v = .error .range := by
  have hrange : recordInRange v = false := Bool.eq_false_iff.mpr (mt (recordInRange_iff v).mp hr)
  simp [validateRecord, h, hv, hrange]

/-- R163: the sum of the 24 bytes decides over a record in its ranges. -/
theorem validateRecord_inRange (h : v[0] = 0xC7#8 ∧ v[1] = 0x2E#8) (hv : v[2] = 0x01#8) (hr : RecordInRange v) :
    validateRecord v =
      if (v.toList.map BitVec.toNat).sum % 256 = 0 then .ok (recordFields v) else .error .check := by
  have hrange : recordInRange v = true := (recordInRange_iff v).mpr hr
  by_cases hsum : (v.toList.map BitVec.toNat).sum % 256 = 0 <;>
    simp [validateRecord, h, hv, hrange, recordSum, hsum]

/-- R163: bytes that hold the fields of a configuration in its ranges and add up to 0 mod 256 read back as it. -/
theorem HoldsFields.validated {c : Configuration} (h : HoldsFields v c) (hc : ConfigurationSound c)
    (hsum : (v.toList.map BitVec.toNat).sum % 256 = 0) : validateRecord v = .ok c := by
  obtain ⟨h0, h1, h2⟩ := h.header
  rw [validateRecord_inRange ⟨BitVec.eq_of_toNat_eq h0, BitVec.eq_of_toNat_eq h1⟩ (BitVec.eq_of_toNat_eq h2)
    (h.inRange hc), if_pos hsum, h.recordFields_eq]

end

/-- Settles O6: a record in its ranges holds the fields of one configuration, and the sum fixes its check byte. -/
theorem configurationRecordRoundTrip : Obligations.ConfigurationRecordRoundTrip := by
  refine ⟨fun c hc => (holdsFields_recordOf hc).validated hc (sum_recordOf hc), fun v =>
    ⟨validateRecord_signature, fun hsignature => ⟨validateRecord_version hsignature, fun hversion =>
      ⟨validateRecord_range hsignature hversion, fun hrange => ?_⟩⟩⟩⟩
  have hchecked := validateRecord_inRange hsignature hversion hrange
  refine ⟨fun hsum => hchecked.trans (if_neg hsum), fun hsum => ?_⟩
  have hok : validateRecord v = .ok (recordFields v) := hchecked.trans (if_pos hsum)
  have hsound := configurationSound_of_record hok
  exact ⟨_, hok, hsound, (holdsFields_recordFields hsignature hversion hrange).recordOf_eq hsound hsum⟩

end Sys2Proof.Machine

namespace Sys2Proof.Machine

/-! ## The bits of an address set (R186) -/

/-- Flags packed as binary digits, the first the most significant, are the bits of the number. -/
theorem packDigits_testBit (l : List Bool) (i : Nat) (h : i < l.length) :
    (packDigits 2 (l.map Bool.toNat)).testBit (l.length - 1 - i) = l[i] := by
  have hdigits : ∀ d ∈ l.map Bool.toNat, d < 2 := by
    intro d hd
    obtain ⟨f, -, rfl⟩ := List.mem_map.mp hd
    exact Bool.toNat_lt f
  have hdigit := packDigits_digit _ hdigits i (by simpa using h)
  simp only [List.length_map, List.getElem_map] at hdigit
  rw [Nat.testBit_eq_decide_div_mod_eq, hdigit]
  cases l[i] <;> rfl

/-- The bits of the bytes that hold a number are those of the number. -/
theorem natBytes_bit (len n : Nat) {i j : Nat} (hi : i < len) (hj : j < 8) :
    ((natBytes len n).getD i 0#8).getLsbD j = n.testBit (8 * (len - 1 - i) + j) := by
  have hbyte : (natBytes len n).getD i 0#8 = byteOf (n / 2 ^ (8 * (len - 1 - i)) % 2 ^ 8) := by
    rw [pow_mul]
    simp [natBytes, unpackDigits, List.getD_eq_getElem?_getD, hi]
  rw [hbyte, byteOf, BitVec.getLsbD_ofNat, decide_eq_true hj, Bool.true_and, Nat.testBit_mod_two_pow,
    decide_eq_true hj, Bool.true_and, Nat.testBit_div_two_pow, Nat.add_comm]

/-- R186: an address's bit in the bytes of an address set. -/
theorem addressSet_bit (v : Vector Bool 32) (a : Addr) :
    ((addressSet v).getD (a.val / 8) 0#8).getLsbD (7 - a.val % 8) = v[a] := by
  have hbit := packDigits_testBit v.toList a.val (by simp)
  simp only [Vector.length_toList, Vector.getElem_toList] at hbit
  rw [addressSet, natBytes_bit 4 _ (by omega) (by omega),
    show 8 * (4 - 1 - a.val / 8) + (7 - a.val % 8) = 32 - 1 - a.val by omega]
  exact hbit

/-! ## The data of STATUS, item by item (R191, R192) -/

/-- R192 offsets 16 to 18: the last arrival record. -/
def arrivalBytes : Option Arrival → List Byte
  | none => [0xFF#8, 0#8, 0#8]
  | some r => finByte r.addr :: halfBytes r.cycle

/-- R192 offsets 19 to 22: the last departure record. -/
def departureBytes : Option Departure → List Byte
  | none => [0xFF#8, 0xFF#8, 0#8, 0#8]
  | some r => [finByte r.addr, r.reason.byte] ++ halfBytes r.cycle

theorem membershipBytes_eq (r : Rcm) :
    membershipBytes r = arrivalBytes r.lastArrival ++ departureBytes r.lastDeparture := by
  unfold membershipBytes
  cases r.lastArrival <;> cases r.lastDeparture <;> rfl

/-- R192: the items of STATUS in the order of their offsets. -/
def statusItems (s : State) : List (List Byte) :=
  [[s.sync.state.byte, s.sync.cond.byte, flagByte s.sync.holder, byteOrFF finByte s.sync.holderAddr],
    cycleBytes s.sync.cycleNumber ++ [flagByte s.sync.withdrawPending],
    addressSet (presentFlags s.rcm.presence),
    addressSet s.rcm.degraded,
    arrivalBytes s.rcm.lastArrival,
    departureBytes s.rcm.lastDeparture,
    [byteOf s.rcm.disagreeing, byteOf (s.ptu.table.toList.count (.owned s.own))],
    claimBytes s.cru.claim,
    lastClaimBytes s.cru.lastClaim,
    [byteOf s.cru.releases.length, flagByte s.cru.releaseAll, byteOrFF ReleaseOutcome.byte s.cru.lastRelease],
    poolBytes s.txe s.dlt,
    [flagByte s.txe.applyPending, byteOf s.rxe.queue.length, byteOf s.fru.highest.rank]]

/-- R192: the lengths of the items of STATUS. -/
def statusLengths : List Nat := [4, 4, 4, 4, 3, 4, 2, 14, 10, 3, 8, 3]

theorem statusData_eq_flatten (s : State) : statusData s = (statusItems s).flatten := by
  simp [statusData, statusItems, membershipBytes_eq, ownedCount]

@[simp] theorem arrivalBytes_length (r : Option Arrival) : (arrivalBytes r).length = 3 := by cases r <;> rfl

@[simp] theorem departureBytes_length (r : Option Departure) : (departureBytes r).length = 4 := by cases r <;> rfl

@[simp] theorem phaseList_length (l : List Phase) : (phaseList l).length = 8 := by simp [phaseList]

@[simp] theorem lastClaimBytes_length (o : Option (ClaimOutcome × List Phase)) : (lastClaimBytes o).length = 10 := by
  cases o <;> simp [lastClaimBytes]

@[simp] theorem claimBytes_length (c : Option Claim) : (claimBytes c).length = 14 := by
  cases c with
  | none => simp [claimBytes]
  | some c =>
    obtain ⟨kind, -, -, -⟩ := c
    cases kind <;> simp [claimBytes]

theorem statusItems_lengths (s : State) : (statusItems s).map List.length = statusLengths := by
  simp [statusItems, statusLengths, poolBytes]

@[simp] theorem statusData_length (s : State) : (statusData s).length = 63 := by
  rw [statusData_eq_flatten, List.length_flatten, statusItems_lengths]
  rfl

/-- R192: each item of STATUS stands behind those before it. -/
theorem statusData_item {s : State} {n : Nat} {item : List Byte} (h : (statusItems s)[n]? = some item) :
    ((statusData s).drop (statusLengths.take n).sum).take (statusLengths.getD n 0) = item := by
  obtain ⟨hn, rfl⟩ := List.getElem?_eq_some_iff.mp h
  have hlen : n < statusLengths.length := by rwa [← statusItems_lengths s, List.length_map]
  have hitem := List.drop_take_succ_flatten_eq_getElem (statusItems s) n hn
  rwa [statusItems_lengths, ← statusData_eq_flatten, List.sum_take_succ _ _ hlen, ← List.take_drop,
    ← List.getD_eq_getElem _ 0 hlen] at hitem

/-- A byte of an item is a byte of the list that the item stands in. -/
theorem getD_of_item {l item : List Byte} {off len i : Nat} (h : (l.drop off).take len = item) (hi : i < len) :
    l.getD (off + i) 0#8 = item.getD i 0#8 := by
  simp [← h, List.getD_eq_getElem?_getD, hi]

/-- R186: an address's bit where an address set is an item of a list. -/
theorem addressSet_item_bit {l : List Byte} {v : Vector Bool 32} {off : Nat} (h : (l.drop off).take 4 = addressSet v)
    (a : Addr) : (l.getD (off + a.val / 8) 0#8).getLsbD (7 - a.val % 8) = v[a] := by
  rw [getD_of_item h (by omega), addressSet_bit]

/-- R172, R177: a STATUS without arguments is answered by its data in every state. -/
theorem status_answered {s : State} (hr : s.hp.tx = .request) :
    exec (.status []) s = .next (replied 0x01#8 [] .ok (statusData s) s) :=
  congrArg _ (takeRequest_by_rule 0x01#8 [] _ s hr (.inr rfl))

/-- Settles O10: each item stands at the sum of the lengths before it. -/
theorem statusReplyLayout : Obligations.StatusReplyLayout := by
  intro s hr
  have hpresence : ((statusData s).drop 8).take 4 = addressSet (presentFlags s.rcm.presence) :=
    statusData_item (n := 2) rfl
  have hdegraded : ((statusData s).drop 12).take 4 = addressSet s.rcm.degraded := statusData_item (n := 3) rfl
  have harrival : ((statusData s).drop 16).take 3 = arrivalBytes s.rcm.lastArrival := statusData_item (n := 4) rfl
  have hdeparture : ((statusData s).drop 19).take 4 = departureBytes s.rcm.lastDeparture := statusData_item (n := 5) rfl
  have hclaim : ((statusData s).drop 25).take 14 = claimBytes s.cru.claim := statusData_item (n := 7) rfl
  have hlast : ((statusData s).drop 39).take 10 = lastClaimBytes s.cru.lastClaim := statusData_item (n := 8) rfl
  have hback : ((statusData s).drop 60).take 3 =
      [flagByte s.txe.applyPending, byteOf s.rxe.queue.length, byteOf s.fru.highest.rank] :=
    statusData_item (n := 11) rfl
  refine ⟨statusData s, statusData_length s, status_answered hr, statusData_item (n := 0) rfl,
    statusData_item (n := 1) rfl, fun a => ?_, addressSet_item_bit hdegraded,
    fun hn => harrival.trans (congrArg arrivalBytes hn), fun r hs => harrival.trans (congrArg arrivalBytes hs),
    fun hn => hdeparture.trans (congrArg departureBytes hn), fun r hs => hdeparture.trans (congrArg departureBytes hs),
    statusData_item (n := 6) rfl, fun hn => hclaim.trans (congrArg claimBytes hn), fun c hs hkind => ?_,
    fun c p hs hkind => ?_, fun hn => hlast.trans (congrArg lastClaimBytes hn),
    fun o l hs => hlast.trans (congrArg lastClaimBytes hs), statusData_item (n := 9) rfl,
    statusData_item (n := 10) rfl, ?_⟩
  · rw [addressSet_item_bit hpresence]
    simp [presentFlags]
  · rw [hclaim, hs]
    simp [claimBytes, hkind]
  · rw [hclaim, hs]
    simp [claimBytes, hkind]
  · rwa [List.take_of_length_le (by simp)] at hback

end Sys2Proof.Machine

namespace Sys2Proof.Machine

/-! ## The front of the queue (chapter 95) -/

theorem step_of_pending {s : State} {c : Instr} {rest : List Instr} (h : s.pending = c :: rest) :
    step s = exec c { s with pending := rest } := by
  rw [step, h]
  rfl

theorem step_of_empty_queue {s : State} (h : s.pending = []) : step s = clockPort s := by
  rw [step, h]

/-! ## A clock of SCK (R170, R171, R174) -/

theorem clockPort_without_bit {s : State} (h : s.hp.sdi = []) : clockPort s = .next s := by
  rw [clockPort, h]

/-- R170: a bit that leaves the byte in progress short of 8 joins it. -/
theorem clockPort_short {s : State} {v : Bool} {rest : List Bool} (h : s.hp.sdi = v :: rest)
    (hlen : s.hp.bits.length < 7) :
    clockPort s = .next { s with hp := { s.hp with sdi := rest, bits := s.hp.bits ++ [v] } } := by
  rw [clockPort, h]
  exact if_pos (by simp; omega)

/-- R170: 8 bits make the byte of which they are the bits, the first the most significant. -/
theorem byteOfBits_eq {l : List Bool} {b : Byte} (hlen : l.length = 8)
    (h : ∀ i : Fin 8, l[i.val]? = some (b.getLsbD (7 - i.val))) : byteOfBits l = b := by
  have hl : l = byteBits b := by
    refine List.ext_getElem? fun i => ?_
    by_cases hi : i < 8
    · exact (h ⟨i, hi⟩).trans (byteBits_get b ⟨i, hi⟩).symm
    · rw [List.getElem?_eq_none (by omega), List.getElem?_eq_none (by simp; omega)]
  rw [hl, byteOfBits_byteBits]

/-- R170, R171: the eighth bit makes a byte, and the byte runs what it completes. -/
theorem clockPort_whole_byte {s u : State} {v : Bool} {rest : List Bool} {b : Byte} (h : s.hp.sdi = v :: rest)
    (hlen : s.hp.bits.length = 7) (hb : ∀ i : Fin 8, (s.hp.bits ++ [v])[i.val]? = some (b.getLsbD (7 - i.val)))
    (hu : u = { s with hp := { s.hp with sdi := rest, bits := [] } }) :
    clockPort s = (completedBy b u).elim (.next (shiftByte b u)) fun c => exec c (shiftByte b u) := by
  have h8 : (s.hp.bits ++ [v]).length = 8 := by simp [hlen]
  subst hu
  rw [clockPort, h]
  dsimp only [State.withHp]
  rw [if_neg (by omega), byteOfBits_eq h8 hb]
  split
  next hc => rw [hc]; rfl
  next c hc => rw [hc]; rfl

/-! ## What a whole byte does (R171, R174) -/

theorem byte_in_request {u : State} (b : Byte) (h : u.hp.tx = .request) :
    completedBy b u = requestOf (u.hp.request ++ [b]) ∧
      shiftByte b u = { u with hp := { u.hp with request := u.hp.request ++ [b] } } := by
  simp [completedBy, shiftByte, h, State.withHp]

theorem byte_outside_transaction {u : State} (b : Byte) (h : u.hp.tx = .idle ∨ u.hp.tx = .trailing) :
    completedBy b u = none ∧ shiftByte b u = u := by
  rcases h with h | h <;> simp [completedBy, shiftByte, h]

theorem replyBytes_length (r : Reply) : r.bytes.length = 2 + r.data.length :=
  Nat.add_comm _ 2

section

variable {u : State} {r : Reply} (b : Byte) (h : u.hp.tx = .reply) (hr : u.hp.reply = some r)

include h hr

theorem completedBy_reply : completedBy b u =
    if commitsPop u.hp r ∧ 2 + r.data.length ≤ r.shifted + 1 then
      some (if u.hp.request.head? = some 0x03#8 then .popRxCommit else .popDoneCommit)
    else none := by
  simp [completedBy, h, hr, replyBytes_length]

theorem shiftByte_reply : shiftByte b u =
    if r.shifted + 1 < 2 + r.data.length then
      { u with hp := { u.hp with reply := some { r with shifted := r.shifted + 1 } } }
    else if commitsPop u.hp r then u else replyDone r u := by
  simp [shiftByte, h, hr, replyBytes_length, State.withHp]

/-- R171: a byte of the reply that is not its last has gone out. -/
theorem byte_within_reply (hmore : r.shifted < 1 + r.data.length) : completedBy b u = none ∧
    shiftByte b u = { u with hp := { u.hp with reply := some { r with shifted := r.shifted + 1 } } } :=
  ⟨(completedBy_reply b h hr).trans (if_neg fun hlast => by omega),
    (shiftByte_reply b h hr).trans (if_pos (by omega))⟩

/-- R174: the last byte of an OK reply to a pop is the command that commits it. -/
theorem last_byte_of_pop (hlast : 1 + r.data.length ≤ r.shifted) (hpop : commitsPop u.hp r = true) :
    completedBy b u = some (if u.hp.request.head? = some 0x03#8 then .popRxCommit else .popDoneCommit) ∧
      shiftByte b u = u :=
  ⟨(completedBy_reply b h hr).trans (if_pos ⟨hpop, by omega⟩),
    (shiftByte_reply b h hr).trans ((if_neg (by omega)).trans (if_pos hpop))⟩

/-- R171: the last byte of any other reply leaves the port in TRAILING. -/
theorem last_byte_of_reply (hlast : 1 + r.data.length ≤ r.shifted) (hpop : ¬commitsPop u.hp r = true) :
    completedBy b u = none ∧ shiftByte b u = replyDone r u :=
  ⟨(completedBy_reply b h hr).trans (if_neg fun hcommit => hpop hcommit.1),
    (shiftByte_reply b h hr).trans ((if_neg (by omega)).trans (if_neg hpop))⟩

end

theorem commitsPop_iff (h : Hp) (r : Reply) : commitsPop h r = true ↔
    (h.request.head? = some 0x03#8 ∨ h.request.head? = some 0x04#8) ∧ r.status = .ok := by
  simp [commitsPop]

/-- Settles O1: the front of the queue, or a clock of SCK by the byte that it ends and the port's state. -/
theorem stepRunsTheFrontCommand : Obligations.StepRunsTheFrontCommand := by
  refine ⟨fun c rest s hq => step_of_pending hq, fun s hq hsdi => ?_, fun v rest s hq hsdi hlen => ?_,
    fun v rest b s u hq hsdi hlen hb hu => ?_⟩
  · rw [step_of_empty_queue hq, clockPort_without_bit hsdi]
  · rw [step_of_empty_queue hq, clockPort_short hsdi hlen]
  have hstep := (step_of_empty_queue hq).trans (clockPort_whole_byte hsdi hlen hb hu)
  have htx : u.hp.tx = s.hp.tx := by rw [hu]
  have hrequest : u.hp.request = s.hp.request := by rw [hu]
  have hreply : u.hp.reply = s.hp.reply := by rw [hu]
  rw [← htx, ← hrequest, ← hreply, hstep]
  refine ⟨fun ht => ?_, fun r ht hr => ⟨fun hmore => ?_, fun hlast => ⟨fun hok hhead => ?_, fun hok hhead => ?_,
    fun hother => ?_⟩⟩, fun ht => ?_⟩
  · obtain ⟨hcompleted, hshift⟩ := byte_in_request b ht
    rw [hcompleted, hshift]
    exact ⟨fun hn => by rw [hn]; rfl, fun c hc => by rw [hc]; rfl⟩
  · obtain ⟨hcompleted, hshift⟩ := byte_within_reply b ht hr hmore
    rw [hcompleted, hshift]
    rfl
  · obtain ⟨hcompleted, hshift⟩ := last_byte_of_pop b ht hr hlast ((commitsPop_iff _ _).mpr ⟨.inl hhead, hok⟩)
    rw [hcompleted, hshift, hhead]
    rfl
  · obtain ⟨hcompleted, hshift⟩ := last_byte_of_pop b ht hr hlast ((commitsPop_iff _ _).mpr ⟨.inr hhead, hok⟩)
    rw [hcompleted, hshift, hhead]
    rfl
  · have hpop : ¬commitsPop u.hp r = true := by
      rw [commitsPop_iff]
      tauto
    obtain ⟨hcompleted, hshift⟩ := last_byte_of_reply b ht hr hlast hpop
    rw [hcompleted, hshift, hu]
    rfl
  · obtain ⟨hcompleted, hshift⟩ := byte_outside_transaction b ht
    rw [hcompleted, hshift]
    rfl

end Sys2Proof.Machine

namespace Sys2Proof.Machine

/-! ## The edges of CS_N (R171, R173, R176) -/

theorem transactionBegin_already_low {s : State} (h : s.hp.csLow = true) (l : List Bool) :
    exec (.transactionBegin l) s = .next s :=
  congrArg _ (if_pos h)

/-- R176: while a reset lasts the port takes the level alone. -/
theorem transactionBegin_held {s : State} (h : s.hp.csLow = false) (hstep : s.cfg.step = .held) (l : List Bool) :
    exec (.transactionBegin l) s = .next { s with hp := { s.hp with csLow := true } } :=
  congrArg _ ((if_neg (Bool.eq_false_iff.mp h)).trans (if_pos hstep))

theorem transactionBegin_starts {s : State} (h : s.hp.csLow = false) (hstep : s.cfg.step ≠ .held) (l : List Bool) :
    exec (.transactionBegin l) s = .next { s with
      hp := { s.hp with csLow := true, sdi := l, bits := [], tx := .request, request := [], reply := none } } :=
  congrArg _ ((if_neg (Bool.eq_false_iff.mp h)).trans (if_neg hstep))

theorem transactionEnd_already_high {s : State} (h : s.hp.csLow = false) (n : Nat) :
    exec (.transactionEnd n) s = .next s :=
  congrArg _ (if_pos h)

/-- R171: without an accepted soft reset the port alone returns to IDLE, and keeps its sets. -/
theorem portIdle_eq {s : State} (h : s.hp.softReset = false) : portIdle s = { s with
    hp := { s.hp with csLow := false, sdi := [], bits := [], tx := .idle, request := [], reply := none } } := by
  simp [portIdle, State.withHp, h]

/-- R173: a cut request of at least one whole byte records HOST_PROTOCOL, outside START and OFFLINE. -/
theorem transactionEnd_without_softReset {s : State} (h : s.hp.csLow = true) (hsoft : s.hp.softReset = false)
    (n : Nat) : exec (.transactionEnd n) s = .next
      (if s.hp.tx = .request ∧ 1 ≤ s.hp.request.length + n ∧ s.sync.state ≠ .start ∧ s.sync.state ≠ .offline then
        recordFault .hostProtocol .none (portIdle s)
      else portIdle s) :=
  congrArg _ ((if_neg (by simp [h])).trans (if_neg (by simp [hsoft])))

/-! ## SDO, byte and bit (R170, R171, R190) -/

theorem sdoHighZ_iff (s : State) :
    s.sdoHighZ = true ↔ s.hp.csLow = false ∨ s.hp.tx = .idle ∨ s.cfg.step = .held := by
  simp [State.sdoHighZ, or_assoc]

theorem sdoHighZ_eq_false {s : State} (h : s.hp.csLow = true) (hstep : s.cfg.step ≠ .held) (htx : s.hp.tx ≠ .idle) :
    s.sdoHighZ = false := by
  simp [State.sdoHighZ, h, hstep, htx]

theorem sdoByte_highZ {s : State} (h : s.sdoHighZ = true) : s.sdoByte = none := if_pos h

/-- R171: outside REPLY SDO shows 00h. -/
theorem sdoByte_not_replying {s : State} (h : s.sdoHighZ = false) (htx : s.hp.tx = .request ∨ s.hp.tx = .trailing) :
    s.sdoByte = some 0x00#8 := by
  rcases htx with htx | htx <;> simp [State.sdoByte, h, htx]

/-- R171: in REPLY SDO shows the byte of the reply that stands behind those shifted out. -/
theorem sdoByte_replying {s : State} {r : Reply} (h : s.sdoHighZ = false) (htx : s.hp.tx = .reply)
    (hr : s.hp.reply = some r) : s.sdoByte = some (at' r.bytes r.shifted) := by
  simp [State.sdoByte, h, htx, hr]

/-- R190: a reply shows its status code, then its length, then its data. -/
theorem reply_bytes_at (r : Reply) : at' r.bytes 0 = r.status.byte ∧ at' r.bytes 1 = byteOf r.data.length ∧
    ∀ (i : Nat) (h : i < r.data.length), at' r.bytes (2 + i) = r.data[i] := by
  refine ⟨rfl, rfl, fun i h => ?_⟩
  rw [Nat.add_comm]
  exact List.getD_eq_getElem r.data 0#8 h

/-- R170: of the byte that goes out, the bit beside the one that comes in. -/
theorem sdoBit_of_sdoByte {s : State} {b : Byte} (h : s.sdoByte = some b) (hlen : s.hp.bits.length < 8) :
    s.sdoBit = some (b.getLsbD (7 - s.hp.bits.length)) := by
  rw [State.sdoBit, h]
  exact byteBits_get b ⟨_, hlen⟩

/-- Settles O8: each edge of CS_N by its case, then what SDO shows by the port's state. -/
theorem transactionsBeginAndEnd : Obligations.TransactionsBeginAndEnd := by
  refine ⟨⟨fun l s h hstep => transactionBegin_starts h hstep l, fun l s h hstep => transactionBegin_held h hstep l,
    fun l s h => transactionBegin_already_low h l⟩,
    ⟨fun s u n h hsoft hu => ?_, fun s n h => transactionEnd_already_high h n⟩,
    ⟨fun s h => ?_, fun s h hstep htx => ?_, fun s r h hstep htx hr => ?_⟩, fun b j s h hj hlt => ?_, fun s h => ?_⟩
  · rw [transactionEnd_without_softReset h hsoft, portIdle_eq hsoft, ← hu]
  · have hz := (sdoHighZ_iff s).mpr h
    exact ⟨hz, sdoByte_highZ hz⟩
  · have hz := sdoHighZ_eq_false h hstep (by rcases htx with htx | htx <;> simp [htx])
    exact ⟨hz, sdoByte_not_replying hz htx⟩
  · have hz := sdoHighZ_eq_false h hstep (by simp [htx])
    obtain ⟨hstatus, hlength, hdata⟩ := reply_bytes_at r
    rw [sdoByte_replying hz htx hr]
    exact ⟨hz, fun h0 => by rw [h0, hstatus], fun h1 => by rw [h1, hlength], fun i hi h2 => by rw [h2, hdata i hi]⟩
  · subst hj
    exact sdoBit_of_sdoByte h hlt
  · rw [State.sdoBit, h]
    rfl

end Sys2Proof.Machine

namespace Sys2Proof.Machine

/-! ## The request that a command is (R171, R172, R190) -/

/-- R171, R172: a command of one of the 20 names is carried out by taking its request, with the length check of R190. -/
theorem exec_request {i : Instr} {code : Byte} (h : i.requestCode = some code) :
    ∃ (lengthOk : Bool) (rule : State → Result), (lengthOk = true ↔ requestLengthRight i) ∧
      ∀ s, exec i s = .next (takeRequest code lengthOk (requestArgs i) rule s) := by
  cases i with
  | status _ | popRx _ | popDone _ | releaseAll _ | readFaults _ | clearFaults _ | readEvents _ | applyPattern _
  | join _ | withdraw _ | softReset _ | readConfig _ =>
    obtain rfl := Option.some.inj h
    exact ⟨_, _, by rw [List.isEmpty_iff_length_eq_zero]; rfl, fun _ => rfl⟩
  | claim _ | claimAt _ | release _ | readTable _ | ackEvents _ | setEnables _ | stagePattern _ =>
    obtain rfl := Option.some.inj h
    exact ⟨_, _, beq_iff_eq, fun _ => rfl⟩
  | push l =>
    obtain rfl := Option.some.inj h
    refine ⟨pushLengthOk l, pushRule l, ?_, fun _ => rfl⟩
    simp [pushLengthOk, requestLengthRight, at']
  | _ => cases h

/-- R190: the code of a request and its arguments pick it. -/
theorem requestNamed_requestCode {i : Instr} {code : Byte} (h : i.requestCode = some code) :
    requestNamed code (requestArgs i) = i := by
  cases i with
  | status _ | push _ | popRx _ | popDone _ | claim _ | claimAt _ | release _ | releaseAll _ | readTable _
  | readFaults _ | clearFaults _ | readEvents _ | ackEvents _ | setEnables _ | stagePattern _ | applyPattern _
  | join _ | withdraw _ | softReset _ | readConfig _ =>
    obtain rfl := Option.some.inj h
    rfl
  | _ => cases h

/-- R172: a code that names none of the 20 requests is a BAD_REQUEST. -/
theorem requestNamed_unnamed {code : Byte} (h : ¬(0x01#8 ≤ code ∧ code ≤ 0x14#8)) (args : List Byte) :
    requestNamed code args = .badRequest code args := by
  have hne : ∀ c : Byte, 0x01#8 ≤ c → c ≤ 0x14#8 → code ≠ c := by
    rintro c hlow hhigh rfl
    exact h ⟨hlow, hhigh⟩
  simp [requestNamed, hne]

/-- R171, R190: a request's bytes pick it by code and arguments, whatever follows them. -/
theorem requestOf_complete (code : Byte) {args : List Byte} (h : args.length ≤ 255) (more : List Byte) :
    requestOf (code :: byteOf args.length :: (args ++ more)) = some (requestNamed code args) := by
  simp [requestOf, byteOf_toNat (Nat.lt_succ_of_le h)]

/-- R171: without its header and all the arguments that the header calls for, there is no request. -/
theorem requestOf_incomplete {b : List Byte} (h : b.length < 2 ∨ b.length < 2 + (b.getD 1 0#8).toNat) :
    requestOf b = none := by
  match b, h with
  | [], _ | [_], _ => rfl
  | code :: n :: rest, h =>
    have hshort : ¬n.toNat ≤ rest.length := by
      simp at h
      omega
    exact if_neg hshort

/-! ## BAD_REQUEST (R172) -/

theorem requestCodeNamed_iff (code : Byte) : requestCodeNamed code = true ↔ 0x01#8 ≤ code ∧ code ≤ 0x14#8 := by
  simp [requestCodeNamed]

/-- R172: a code that names no request is answered BAD_REQUEST in REQUEST; in any other case nothing changes. -/
theorem badRequest_answered (code : Byte) (args : List Byte) (s : State) :
    exec (.badRequest code args) s = .next
      (if s.hp.tx = .request ∧ ¬(0x01#8 ≤ code ∧ code ≤ 0x14#8) then replied code args .badRequest [] s else s) := by
  simp only [← requestCodeNamed_iff, Bool.not_eq_true]
  rfl

/-- Settles O9: the checks of R172 as taking a request has them, and what the bytes of a request pick. -/
theorem requestsAreCheckedInOrder : Obligations.RequestsAreCheckedInOrder := by
  refine ⟨fun i code s hcode hne hr hs => ?_, fun i code s hcode hr hs hlen => ?_,
    ⟨fun code args s hr hc => ?_, fun code args s hc => ?_, fun code args s hr => ?_, fun i code s hcode hr => ?_⟩,
    fun i code more hcode hlen => ?_, fun code args more hc hlen => ?_, fun b => requestOf_incomplete⟩
  · obtain ⟨ok, rule, -, hexec⟩ := exec_request hcode
    rw [hexec, takeRequest_starting _ _ _ _ _ hr hs hne]
  · obtain ⟨ok, rule, hok, hexec⟩ := exec_request hcode
    obtain rfl : ok = false := Bool.eq_false_iff.mpr (mt hok.mp hlen)
    rw [hexec, takeRequest_bad_length _ _ _ _ hr hs]
  · rw [badRequest_answered, if_pos ⟨hr, hc⟩]
  · rw [badRequest_answered, if_neg fun h => h.2 hc]
  · rw [badRequest_answered, if_neg fun h => hr h.1]
  · obtain ⟨ok, rule, -, hexec⟩ := exec_request hcode
    rw [hexec, takeRequest_not_taken _ _ _ _ _ hr]
  · rw [requestOf_complete _ hlen, requestNamed_requestCode hcode]
  · rw [requestOf_complete _ hlen, requestNamed_unnamed hc]

end Sys2Proof.Machine

namespace Sys2Proof.Machine

/-! ## Event sets in two bytes (R190) -/

theorem half_toNat (hi lo : Byte) : (half hi lo).toNat = hi.toNat * 256 + lo.toNat := by
  rw [half, BitVec.toNat_append, ← Nat.shiftLeft_add_eq_or_of_lt lo.isLt, Nat.shiftLeft_eq]

theorem eventSetOf_in_range {hi : Byte} (h : hi ≤ 1#8) (lo : Byte) :
    eventSetOf hi lo = some ((hi ++ lo).setWidth 9) := by
  refine if_pos ?_
  rw [half_toNat]
  bv_omega

theorem eventSetOf_out_of_range {hi : Byte} (h : 1#8 < hi) (lo : Byte) : eventSetOf hi lo = none := by
  refine if_neg ?_
  rw [half_toNat]
  bv_omega

/-! ## ACK_EVENTS, SET_ENABLES and ATTN_N (R181 to R183) -/

/-- R172: an ACK_EVENTS that passes the checks clears the set that its bytes hold, or is refused without one. -/
theorem ackEvents_answered {s : State} (hi lo : Byte) (hr : s.hp.tx = .request) (hs : s.sync.state ≠ .start) :
    exec (.ackEvents [hi, lo]) s = .next (match eventSetOf hi lo with
      | none => replied 0x0D#8 [hi, lo] .badArg [] s
      | some e => replied 0x0D#8 [hi, lo] .ok (eventBytes (s.hp.events &&& ~~~e))
          { s with hp := { s.hp with events := s.hp.events &&& ~~~e } }) := by
  refine congrArg _ ((takeRequest_by_rule 0x0D#8 [hi, lo] (ackEventsRule [hi, lo]) s hr (.inl hs)).trans ?_)
  rw [ackEventsRule, show at' [hi, lo] 0 = hi from rfl, show at' [hi, lo] 1 = lo from rfl]
  cases eventSetOf hi lo <;> rfl

/-- R172: a SET_ENABLES that passes the checks enables the set that its bytes hold, or is refused without one. -/
theorem setEnables_answered {s : State} (hi lo : Byte) (hr : s.hp.tx = .request) (hs : s.sync.state ≠ .start) :
    exec (.setEnables [hi, lo]) s = .next (match eventSetOf hi lo with
      | none => replied 0x0E#8 [hi, lo] .badArg [] s
      | some e => replied 0x0E#8 [hi, lo] .ok [] { s with hp := { s.hp with enables := e } }) := by
  refine congrArg _ ((takeRequest_by_rule 0x0E#8 [hi, lo] (setEnablesRule [hi, lo]) s hr (.inl hs)).trans ?_)
  rw [setEnablesRule, show at' [hi, lo] 0 = hi from rfl, show at' [hi, lo] 1 = lo from rfl]
  cases eventSetOf hi lo <;> rfl

/-- R182: ATTN_N is low by one event that is pending and enabled. -/
theorem attnLow_iff (s : State) :
    s.attnLow = true ↔ ∃ i : Fin 9, s.hp.events.getLsbD i = true ∧ s.hp.enables.getLsbD i = true := by
  rw [State.attnLow, bne_iff_ne]
  constructor
  · intro hne
    by_contra hno
    refine hne (BitVec.eq_of_getLsbD_eq fun i hi => ?_)
    simpa using fun hevent => Bool.eq_false_iff.mpr fun henable => hno ⟨⟨i, hi⟩, hevent, henable⟩
  · rintro ⟨i, hevent, henable⟩ hzero
    have hbit := congrArg (BitVec.getLsbD · i.val) hzero
    rw [BitVec.getLsbD_and, hevent, henable, BitVec.getLsbD_zero] at hbit
    cases hbit

/-- Settles O12: each request by the event set that its two bytes hold. -/
theorem eventRequests : Obligations.EventRequests := by
  refine ⟨fun s hr hs => congrArg _ (takeRequest_by_rule 0x0C#8 [] _ s hr (.inl hs)), fun hi lo s hr hs hhi => ?_,
    fun hi lo s hr hs hhi => ?_, fun hi lo s hr hs hhi => ?_, attnLow_iff⟩
  · refine ⟨s.hp.events &&& ~~~((hi ++ lo).setWidth 9), fun i hi9 => by simp [hi9], ?_⟩
    rw [ackEvents_answered hi lo hr hs, eventSetOf_in_range hhi]
    rfl
  · refine ⟨(hi ++ lo).setWidth 9, fun i hi9 => by simp [hi9], ?_⟩
    rw [setEnables_answered hi lo hr hs, eventSetOf_in_range hhi]
  · rw [ackEvents_answered hi lo hr hs, setEnables_answered hi lo hr hs, eventSetOf_out_of_range hhi]
    exact ⟨rfl, rfl⟩

end Sys2Proof.Machine

namespace Sys2Proof.Machine

/-! ## The queue behind a command (chapter 95) -/

/-- R172: a request whose rule keeps the queue keeps it. -/
theorem takeRequest_pending (code : Byte) (ok : Bool) (args : List Byte) {rule : State → Result} {s : State}
    (h : (rule s).state.pending = s.pending) : (takeRequest code ok args rule s).pending = s.pending :=
  takeRequest_keeps State.pending (fun _ _ => rfl) _ _ _ _ _ h

/-- R5: what LIF does with the bytes of a reception keeps the queue where taking them does. -/
theorem hear_pending {part : Part} {b : List Byte} {running : Bool} {take : List Byte → State → State} {s : State}
    (h : ∀ bytes u, (take bytes u).pending = u.pending) : (hear part b running take s).pending = s.pending :=
  hear_leads (P := fun u => u.pending = s.pending) rfl (fun _ => rfl) (fun _ => h _ s) fun _ => h _ (endReception s)

theorem takeMarkerBytes_pending (offset : Int) (together : Bool) (frame : List Byte) (s : State) :
    (takeMarkerBytes offset together frame s).pending = s.pending := by
  unfold takeMarkerBytes
  (repeat' split) <;> simp

theorem takeRollBytes_pending (k : Addr) (together : Bool) (frame : List Byte) (s : State) :
    (takeRollBytes k together frame s).pending = s.pending := by
  unfold takeRollBytes
  (repeat' split) <;> simp

theorem takeDataBytes_pending (k : Phase) (together : Bool) (frame : List Byte) (s : State) :
    (takeDataBytes k together frame s).pending = s.pending := by
  unfold takeDataBytes
  (repeat' split) <;> simp

theorem withdrawRule_pending (s : State) : (withdrawRule s).state.pending = s.pending := by
  unfold withdrawRule
  split <;> simp [accept, refuse]

theorem pushRule_pending (args : List Byte) (s : State) : (pushRule args s).state.pending = s.pending := by
  unfold pushRule
  (repeat' split) <;> rfl

/-- The commands of the host port that reach neither the line nor the sync state keep the queue. -/
theorem exec_pending_of_portOnly {i : Instr} {s t : State} (hi : portOnly i = true) (ht : exec i s = .next t) :
    t.pending = s.pending := by
  cases i with
  | transactionBegin _ | badRequest _ _ | popRxCommit | popDoneCommit =>
    obtain rfl := next_inj ht
    (repeat' split) <;> simp
  | status _ | readFaults _ | clearFaults _ | readEvents _ | applyPattern _ | softReset _ | readConfig _ =>
    obtain rfl := next_inj ht
    exact takeRequest_pending _ _ _ rfl
  | popRx _ | popDone _ | releaseAll _ =>
    obtain rfl := next_inj ht
    apply takeRequest_pending
    split <;> rfl
  | push args => obtain rfl := next_inj ht; exact takeRequest_pending _ _ _ (pushRule_pending args s)
  | claim _ | claimAt _ | release _ | readTable _ | ackEvents _ | setEnables _ | stagePattern _ =>
    obtain rfl := next_inj ht
    apply takeRequest_pending
    dsimp only [claimRule, claimAtRule, releaseRule, readTableRule, ackEventsRule, setEnablesRule, stagePatternRule]
    (repeat' split) <;> rfl
  | _ => cases hi

/-- R168: the resets and the commands of START keep the queue. -/
theorem exec_pending_of_startsOver {i : Instr} {s t : State} (hi : startsOver i = true) (ht : exec i s = .next t) :
    t.pending = s.pending := by
  cases i with
  | powerOnReset | pinReset => obtain rfl := next_inj ht; rfl
  | start _ _ | readAttemptEnd _ | sclHoldTimeout _ | retryWaitExpiry _ =>
    obtain rfl := next_inj ht
    (repeat' split) <;> simp
  | _ => cases hi

/-- Chapter 95: a command's effect is on the blocks; the commands that wait behind it stand. -/
theorem exec_pending {i : Instr} {s t : State} (ht : exec i s = .next t) : t.pending = s.pending := by
  cases i with
  | powerOnReset | pinReset | start _ _ | readAttemptEnd _ | sclHoldTimeout _ | retryWaitExpiry _ =>
    exact exec_pending_of_startsOver rfl ht
  | transactionEnd n =>
    obtain rfl := next_inj ht
    (repeat' split)
    · rfl
    · rfl
    · simp
    · rfl
  | join args =>
    obtain rfl := next_inj ht
    apply takeRequest_pending
    split <;> simp [accept, refuse]
  | withdraw args => obtain rfl := next_inj ht; exact takeRequest_pending _ _ _ (withdrawRule_pending s)
  | markerReceived b o p g => obtain rfl := next_inj ht; exact hear_pending (takeMarkerBytes_pending o g)
  | rollWordReceived k b p g => obtain rfl := next_inj ht; exact hear_pending (takeRollBytes_pending k g)
  | dataFrameReceived k b p g => obtain rfl := next_inj ht; exact hear_pending (takeDataBytes_pending k g)
  | markerSlotEnd _ | rollSlotDamaged _ _ | dataPhaseDamaged _ _ | ownMarkerReadBack _ | ownRollReadBack _
  | ownDataReadBack _ | cycleStart =>
    obtain rfl := next_inj ht
    dsimp only
    (repeat' split) <;> simp
  | ownRollSlot =>
    obtain rfl := next_inj ht
    (repeat' split) <;> rfl
  | leaveSlotEnd | rollCallClose | dataPhase _ | listenTimerExpiry | takeoverTimerExpiry | lineFaultTimerExpiry _ =>
    obtain rfl := next_inj ht
    (repeat' split) <;> simp
  | _ => exact exec_pending_of_portOnly rfl ht

/-- Chapter 95: no arm of the dispatch stops with a fault or refuses: each is written as an answer with a next state. -/
theorem exec_answers (i : Instr) (s : State) : ∃ t, exec i s = .next t := by
  cases i <;> exact ⟨_, rfl⟩

/-- Settles O2: the state that a command answers, and the queue that it keeps. -/
theorem everyCommandAnswersAndLeavesTheQueue : Obligations.EveryCommandAnswersAndLeavesTheQueue := by
  intro c s
  obtain ⟨t, ht⟩ := exec_answers c s
  exact ⟨t, ht, exec_pending ht⟩

end Sys2Proof.Machine
